-- ==== Sys2Proof/Word.lean ====
section
/-! DEFINITION. The widths the spec computes with (00_scope.md R6, R10). -/

namespace Sys2Proof

/-- A host register: 32 bits (00_scope.md R6). -/
abbrev Word := BitVec 32

/-- A device register, a device register address or a code: 8 bits (00_scope.md R6). -/
abbrev Byte := BitVec 8

/-- A raw axis value: 16 bits, two's complement (00_scope.md R6, R10). -/
abbrev Half := BitVec 16

end Sys2Proof
end

