-- ==== Sys2Proof/Syntax.lean ====
section
/-! DEFINITION. The commands, the bus-port records, the host's program operations and the turns of a schedule. -/

namespace Sys2Proof

/-- The four commands, one constructor for each row of the opcode table (30_encoding.md R121, R122). The
immediate is a u8 taken as it stands (R123), so every term is well formed. -/
inductive Instr where
  /-- CONFIGURE, the power-up configuration sequence (40_sequencer.md R175). -/
  | configure
  /-- READ_ID, the identity query (40_sequencer.md R193). -/
  | readId
  /-- SAMPLE, the sample acquisition (41_acquisition.md R210). -/
  | sample
  /-- DECODE #imm8, the control bit-field decoder (42_decoder.md R240). -/
  | decode (imm : Byte)
deriving DecidableEq, Repr

/-- Why a command word is illegal (30_encoding.md R124). -/
inductive Illegal where
  /-- R124 (b): bits 31:16 are not zero. -/
  | reservedNonzero
  /-- R124 (a): the opcode is 0x00 or 0x05 to 0xFF. -/
  | reservedOpcode
  /-- R124 (c): CONFIGURE, READ_ID or SAMPLE with bits 15:8 not zero. -/
  | immediateNonzero
  /-- Not one whole 32-bit word, so no command at all (R120, 20_memory.md R82). -/
  | notOneWord
deriving DecidableEq, Repr

/-- What a decoder answers: a command, or the reason the word is illegal (30_encoding.md R126). -/
inductive Decoded where
  | cmd (i : Instr)
  | illegal (why : Illegal)
deriving DecidableEq, Repr

/-- A bus request (30_encoding.md R140). -/
inductive BusReq where
  | wr (addr data : Byte)
  | rd (addr : Byte)
  | rdseq (addr count : Byte)
deriving DecidableEq, Repr

/-- The phase of a transaction that failed (30_encoding.md R146, EPHASE). -/
inductive Phase where
  | write | select | data
deriving DecidableEq, Repr

/-- A bus response (30_encoding.md R141). -/
inductive BusResp where
  | ok (bytes : List Byte)
  | fail (phase : Phase) (code : Byte)
deriving DecidableEq, Repr

/-- An event of the bus trace (10_state.md R64). -/
inductive BusEvent where
  | req (r : BusReq)
  | resp (r : BusResp)
  | reset
deriving DecidableEq, Repr

/-- The width of a host access. Only 32-bit ones are defined (20_memory.md R82); `other` is every width but 8, 16 and 32
bits, wider ones included. R82 lets a model give the undefined ones RAZ/WI or refuse them: DESIGN CHOICE, this model
gives them RAZ/WI (assumption 17). -/
inductive Width where
  | w8 | w16 | w32 | other
deriving DecidableEq, Repr

/-- One operation of a host program (30_encoding.md R151), with the access widths of 20_memory.md R82. -/
inductive HostOp where
  /-- `W off, val`. -/
  | write (width : Width) (off val : Word)
  /-- `R off`. -/
  | read (width : Width) (off : Word)
  /-- `POLL off, mask, val`: read again until (value AND mask) = val. -/
  | poll (off mask val : Word)
deriving DecidableEq, Repr

/-- One entry of the schedule: which agent moves next (00_scope.md R8), or the reset input
(70_reset_and_hazards.md R311). -/
inductive Turn where
  | host
  | sequencer
  /-- The Transport answers the pending request with this response (20_memory.md R91). -/
  | transport (resp : BusResp)
  | reset
deriving DecidableEq, Repr

end Sys2Proof
end

