-- ==== Sys2Proof/WellFormed.lean ====
section
/-! DEFINITION. Which command words are well formed: the opcode table as rows of match and mask (30_encoding.md
R122). Every term of Instr is well formed by its type, so the check is on words; the checks on parameters stand in
Config.lean (Params.wf) and the check on responses in Machine/Transport.lean. -/

namespace Sys2Proof

/-- One row of the opcode table. -/
structure OpRow where
  mnemonic : String
  pattern  : Word
  mask     : Word
deriving DecidableEq, Repr

/-- The table of 30_encoding.md R122. -/
def opcodeTable : List OpRow :=
  [ ⟨"CONFIGURE", 0x00000001, 0xFFFFFFFF⟩,
    ⟨"READ_ID",   0x00000002, 0xFFFFFFFF⟩,
    ⟨"SAMPLE",    0x00000003, 0xFFFFFFFF⟩,
    ⟨"DECODE",    0x00000004, 0xFFFF00FF⟩ ]

/-- (w AND mask) = match. -/
def OpRow.hits (r : OpRow) (w : Word) : Bool := w &&& r.mask = r.pattern

/-- A word is legal when exactly one row matches it (30_encoding.md R122). -/
def legalWord (w : Word) : Bool := (opcodeTable.filter (·.hits w)).length = 1

end Sys2Proof
end

