-- ==== Sys2Proof/Decode.lean ====
section
/-! DEFINITION. The decoder of 30_encoding.md R126, total on every word and every list of bytes, and the encoder of
R150. -/

namespace Sys2Proof

/-- Bits 7:0 of a command word (30_encoding.md R120). -/
def opField (w : Word) : Byte := w.extractLsb' 0 8

/-- Bits 15:8 of a command word (30_encoding.md R120). -/
def immField (w : Word) : Byte := w.extractLsb' 8 8

/-- Bits 31:16 of a command word (30_encoding.md R120). -/
def rsvField (w : Word) : Half := w.extractLsb' 16 16

/-- The commands without an operand need a zero immediate field (30_encoding.md R124 (c)). -/
def plainCommand (w : Word) (i : Instr) : Decoded :=
  if immField w = 0 then .cmd i else .illegal .immediateNonzero

/-- The decode function of 30_encoding.md R126, with R124's reason in place of `none`. -/
def decodeWord (w : Word) : Decoded :=
  if rsvField w ≠ 0 then .illegal .reservedNonzero
  else if opField w = 0x01 then plainCommand w .configure
  else if opField w = 0x02 then plainCommand w .readId
  else if opField w = 0x03 then plainCommand w .sample
  else if opField w = 0x04 then .cmd (.decode (immField w))
  else .illegal .reservedOpcode

/-- The opcode of a command (30_encoding.md R121). -/
def Instr.opcode : Instr → Byte
  | .configure => 0x01
  | .readId    => 0x02
  | .sample    => 0x03
  | .decode _  => 0x04

/-- The immediate field of a command's word: imm8 for DECODE, 0 otherwise (30_encoding.md R120). -/
def Instr.imm : Instr → Byte
  | .configure  => 0
  | .readId     => 0
  | .sample     => 0
  | .decode imm => imm

/-- The command word `{RSV = 0, IMM, OP}` (30_encoding.md R120, R150). -/
def encode (i : Instr) : Word := 0#16 ++ i.imm ++ i.opcode

/-- Byte lane k of a word carries bits [8k+7:8k] (20_memory.md R83). -/
def byteLane (w : Word) (k : Nat) : Byte := w.extractLsb' (8 * k) 8

/-- A word as the host bus lays it out, lowest byte offset first (20_memory.md R83). -/
def wordBytes (w : Word) : List Byte := [byteLane w 0, byteLane w 1, byteLane w 2, byteLane w 3]

/-- The decoder on bytes: a command is exactly one word (30_encoding.md R120), lanes as in 20_memory.md R83
(assumption 15). -/
def decodeBytes : List Byte → Decoded
  | [b0, b1, b2, b3] => decodeWord (b3 ++ b2 ++ b1 ++ b0)
  | _ => .illegal .notOneWord

/-- The host's question: the command the decoder reads from the word `w` of `nbits` bits, its bytes laid out in
lane order. A value that needs more than 32 bits is no command word. -/
def decodeTableWord (nbits w : Nat) : Option Instr :=
  if w % 2 ^ nbits < 2 ^ 32 then
    match decodeBytes (wordBytes (BitVec.ofNat 32 (w % 2 ^ nbits))) with
    | .cmd i     => some i
    | .illegal _ => none
  else none

/-- The mnemonic's letters, lower case (30_encoding.md R150). -/
def Instr.letters : Instr → List Char
  | .configure => ['c', 'o', 'n', 'f', 'i', 'g', 'u', 'r', 'e']
  | .readId    => ['r', 'e', 'a', 'd', '_', 'i', 'd']
  | .sample    => ['s', 'a', 'm', 'p', 'l', 'e']
  | .decode _  => ['d', 'e', 'c', 'o', 'd', 'e']

/-- The assembler of 30_encoding.md R150: a mnemonic in any case, and imm8 (0 to 255) for `decode` only. -/
def assemble (letters : List Char) (imm : Option Nat) : Option Word :=
  let name := letters.map Char.toLower
  match imm with
  | none =>
    if name = Instr.configure.letters then some (encode .configure)
    else if name = Instr.readId.letters then some (encode .readId)
    else if name = Instr.sample.letters then some (encode .sample)
    else none
  | some n =>
    if name = (Instr.decode 0).letters ∧ n < 256 then some (encode (.decode (BitVec.ofNat 8 n))) else none

end Sys2Proof
end

