-- ==== Sys2Proof/Config.lean ====
section
/-! DEFINITION. What the spec leaves to the implementation: the OPEN parameters of 00_scope.md R6 and the one
free value. The parameters are a record of plain data that State carries (assumption 3), so a statement about
every state is a statement about every parameter. -/

namespace Sys2Proof

/-- The three legal g-range selections, codes 0, 1 and 2 (30_encoding.md R132). The fourth code is reserved and
is never held in CFG, snap or LATCH (10_state.md R45, 40_sequencer.md R189 (f); assumption 8). -/
inductive GSel where
  | g2 | g4 | g8
deriving DecidableEq, Repr, Inhabited

/-- CONV_DIV at the five pairs the spec leaves OPEN, as binary32 words (00_scope.md R6). The pair
(±2g, high resolution) is pinned and is no parameter (41_acquisition.md R214). -/
structure ConvDiv where
  g2Low  : Word
  g4Low  : Word
  g4High : Word
  g8Low  : Word
  g8High : Word
deriving DecidableEq, Repr, Inhabited

/-- The default 1023/FS(gsel) for both resolutions: 511.5, 255.75 and 127.875 as binary32 words
(41_acquisition.md R214, R218 (a)). -/
def ConvDiv.standard : ConvDiv :=
  ⟨0x43FFC000, 0x437FC000, 0x437FC000, 0x42FFC000, 0x42FFC000⟩

/-- The OPEN parameters (00_scope.md R6). BUS_TARGET is outside the block and is not held here. -/
structure Params where
  aWhoAmI   : Byte
  aCtrl1    : Byte
  aCtrl2    : Byte
  aCtrl3    : Byte
  aIntCtrl1 : Byte
  aIntCtrl2 : Byte
  aDataRate : Byte
  aXoutL    : Byte
  odrCode   : Vector Byte 7
  convDiv   : ConvDiv
  mapExtra  : Vector Word 3
deriving DecidableEq, Repr, Inhabited

/-- The format of a MAP entry (42_decoder.md R251): an absent slot is the zero word; a present one has KIND not 0,
AXIS and HIGH only for output data, AXIS at most 2, and zero reserved bits. -/
def mapEntryOk (w : Word) : Bool :=
  if w.extractLsb' 31 1 = 0 then w = 0
  else
    w.extractLsb' 12 4 = 0 ∧ w.extractLsb' 19 12 = 0 ∧ w.extractLsb' 8 4 ≠ 0 ∧
    (if w.extractLsb' 8 4 = 5 then w.extractLsb' 16 2 ≠ 3 else w.extractLsb' 16 3 = 0)

/-- The seven named addresses that are no output register (92_eei_decisions.md D11). -/
def Params.named (p : Params) : List Byte :=
  [p.aWhoAmI, p.aCtrl1, p.aCtrl2, p.aCtrl3, p.aIntCtrl1, p.aIntCtrl2, p.aDataRate]

/-- The constraints on the parameters: A_XOUT_L ≤ 0xFA, the seven named addresses pairwise distinct and outside
the six output registers, the ODR codes pairwise distinct, MAP_EXTRA in the format of R251 (00_scope.md R6;
42_decoder.md R253; 92_eei_decisions.md D10, D11). -/
def Params.wf (p : Params) : Bool :=
  p.aXoutL.toNat ≤ 0xFA ∧
  p.named.Nodup ∧
  (p.named.all fun a => a.toNat < p.aXoutL.toNat ∨ p.aXoutL.toNat + 5 < a.toNat) ∧
  p.odrCode.toList.Nodup ∧
  p.mapExtra.toList.all mapEntryOk

/-- The test instantiation TI (92_eei_decisions.md D39). -/
def Params.ti : Params where
  aWhoAmI   := 0x0F
  aCtrl1    := 0x1B
  aCtrl2    := 0x1D
  aCtrl3    := 0x1C
  aIntCtrl1 := 0x1E
  aIntCtrl2 := 0x1F
  aDataRate := 0x21
  aXoutL    := 0x06
  odrCode   := #v[0, 1, 2, 3, 4, 5, 6]
  convDiv   := .standard
  mapExtra  := #v[0, 0, 0]

/-- Some parameter values, nothing known of them. -/
opaque Config.anyParams : Params

/-- The parameters of the block after power-on: any values that meet the constraints (assumption 3). The second
branch only says that values which break the constraints are not a block of this spec. -/
def Config.params : Params :=
  if Config.anyParams.wf then Config.anyParams else Params.ti

/-- FREE VALUE: the word CONV gives for a raw value and a divisor parameter that is no finite non-zero number, for which
no exact quotient exists and the spec states no result (assumption 4). -/
opaque Config.freeQuotient : Half → Word → Word

/-- The kinds of bus-level fault the source lists (60_exceptions.md R272), and a rest. -/
inductive TransportReason where
  | noAcknowledgment | addressUnreachable | timeout | malformedResponseLength | unlisted
deriving DecidableEq, Repr, Inhabited

/-- TCODE_MEANING, an OPEN parameter no rule of the block reads (60_exceptions.md R272; assumption 14). -/
opaque Config.tcodeMeaning : Byte → TransportReason

/-- EXPECTED_ID, informative and never compared by the block (00_scope.md R6). -/
def Config.expectedId : Byte := 0x35

end Sys2Proof
end

