-- ==== Sys2Proof/Machine/State.lean ====
section
/-! DEFINITION. The state of the block (10_state.md), the reasons a step could stop, and the state after reset
(70_reset_and_hazards.md R310). -/

namespace Sys2Proof.Machine

/-- STATUS, its named bits (10_state.md R33). Bits 31:16 are RAZ/WI and hold nothing. -/
structure Status where
  busy    : Bool
  done    : Bool
  err     : Bool
  active  : Bool
  ill     : Bool
  drop    : Bool
  svalid  : Bool
  idvalid : Bool
  lastop  : Byte
deriving DecidableEq, Repr

/-- CFG, its fields (10_state.md R44). Only legal codes are held (R45; assumption 8). -/
structure Cfg where
  odr  : Fin 7
  res  : Bool
  gsel : GSel
deriving DecidableEq, Repr

/-- CTRL1_IMG (10_state.md R50). -/
structure Ctrl1Img where
  img  : Byte
  imgv : Bool
deriving DecidableEq, Repr

/-- ERRINFO (10_state.md R52). -/
structure ErrInfo where
  evalid : Bool
  eaddr  : Byte
  ephase : BitVec 2
  estep  : BitVec 2
  eop    : BitVec 3
  tcode  : Byte
deriving DecidableEq, Repr

/-- ERRINFO = 0x00000000. -/
def ErrInfo.zero : ErrInfo := ⟨false, 0, 0, 0, 0, 0⟩

/-- LATCH: the configuration the device received in the last successful CONFIGURE (10_state.md R53). -/
structure Latch where
  lodr   : Fin 7
  lres   : Bool
  lgsel  : GSel
  lvalid : Bool
deriving DecidableEq, Repr

/-- The sequencer state, the block's program counter (10_state.md R60). -/
inductive Seq where
  | idle | cfg1 | cfg2 | cfg3 | rid | smp | dec
deriving DecidableEq, Repr

/-- A command's operands, taken at acceptance (10_state.md R61). -/
structure Snap where
  odr  : Fin 7
  res  : Bool
  gsel : GSel
  imm  : Byte
deriving DecidableEq, Repr

/-- The bus-port slot (10_state.md R62). -/
inductive Pend where
  | none
  | issued (req : BusReq)
  | answered (req : BusReq) (resp : BusResp)
deriving DecidableEq, Repr

/-- The two agents whose steps run a command: the Host presents its word (40_sequencer.md R170), the Sequencer
carries it out (R172, R173). The model's own (assumption 1). -/
inductive Mover where
  | host | sequencer
deriving DecidableEq, Repr

/-- The whole state. The first part is the block's (10_state.md R30); `params` are the OPEN parameters
(00_scope.md R6); the rest belongs to the agents around the block. -/
structure State where
  status   : Status
  cfg      : Cfg
  id       : Word
  sx       : Word
  sy       : Word
  sz       : Word
  rawx     : Word
  rawy     : Word
  rawz     : Word
  ctrl1Img : Ctrl1Img
  dec      : Word
  errinfo  : ErrInfo
  latch    : Latch
  /-- `seq`: the sequencer state. -/
  seq      : Seq
  snap     : Snap
  pend     : Pend
  /-- The ordered list of bus events, oldest first (10_state.md R64). -/
  trace    : List BusEvent
  /-- The host operations still to run (30_encoding.md R151; assumption 2). -/
  prog     : List HostOp
  /-- The schedule: whose step comes next (00_scope.md R8; assumption 1). -/
  turns    : List Turn
  /-- What the Host's last read step returned (00_scope.md R13; assumption 9). -/
  rdata    : Word
  /-- Whose step of a command runs (assumption 1). -/
  mover    : Mover
  params   : Params
deriving DecidableEq, Repr

/-- A step of this block never stops with a fault: its three faults are records in STATUS and ERRINFO, and no host
access errs (60_exceptions.md R270, R277, R295; assumption 11). So no constructor: nobody raises one, which is safe. -/
inductive Fault where
deriving DecidableEq, Repr

/-- Why a step has no meaning. -/
inductive Refusal where
  /-- Raised by an arm of exec whose instruction has no meaning yet; safe. No arm is left so. -/
  | notModelled (mnemonic : String)
deriving DecidableEq, Repr

/-- The state after reset (70_reset_and_hazards.md R310), with nothing placed for the agents around the block
(assumptions 1, 2, 9, 12) and any parameters (assumption 3). -/
def State.reset : State where
  status   := ⟨false, false, false, false, false, false, false, false, 0⟩
  cfg      := ⟨5, true, .g2⟩
  id       := 0
  sx       := 0
  sy       := 0
  sz       := 0
  rawx     := 0
  rawy     := 0
  rawz     := 0
  ctrl1Img := ⟨0, false⟩
  dec      := 0
  errinfo  := .zero
  latch    := ⟨5, true, .g2, false⟩
  seq      := .idle
  snap     := ⟨5, true, .g2, 0⟩
  pend     := .none
  trace    := []
  prog     := []
  turns    := []
  rdata    := 0
  mover    := .host
  params   := Config.params

end Sys2Proof.Machine
end

