-- ==== Sys2Proof/Machine/Flags.lean ====
section
/-! DEFINITION. Every way the STATUS bits change (10_state.md R33 to R43); they are the block's only flags (R66). -/

namespace Sys2Proof.Machine

/-- Acceptance of a command with opcode `op` (40_sequencer.md R170). -/
def Status.accepted (t : Status) (op : Byte) : Status :=
  { t with busy := true, done := false, err := false, lastop := op }

/-- A successful completion (10_state.md R34, R35). -/
def Status.completed (t : Status) : Status := { t with done := true, busy := false }

/-- A failed completion (60_exceptions.md R275). -/
def Status.failed (t : Status) : Status := { t with err := true, busy := false }

/-- A host write of `v` to STATUS: bits 1, 2, 4 and 5 clear DONE, ERR, ILL and DROP (10_state.md R43). -/
def Status.written (t : Status) (v : Word) : Status :=
  { t with
    done := t.done && !v.getLsbD 1
    err  := t.err && !v.getLsbD 2
    ill  := t.ill && !v.getLsbD 4
    drop := t.drop && !v.getLsbD 5 }

end Sys2Proof.Machine
end

