-- ==== Sys2Proof/Machine/Operands.lean ====
section
/-! DEFINITION. Codes, operand assembly and the bytes the block sends: the field codes of control register 1
(30_encoding.md R130 to R133), the WARL fields of CFG (10_state.md R45), CONFIGURE's three bytes (40_sequencer.md
R176), the five bus requests (20_memory.md R88) and the byte assembly of SAMPLE (41_acquisition.md R213). -/

namespace Sys2Proof

/-- The two-bit g-range code (30_encoding.md R132). -/
def GSel.code : GSel → BitVec 2
  | .g2 => 0
  | .g4 => 1
  | .g8 => 2

/-- The range a two-bit code selects; 3 is reserved (30_encoding.md R132). -/
def GSel.ofCode (c : BitVec 2) : Option GSel :=
  if c = 0 then some .g2 else if c = 1 then some .g4 else if c = 2 then some .g8 else none

/-- FS in g (00_scope.md R13). -/
def GSel.fullScale : GSel → Nat
  | .g2 => 2
  | .g4 => 4
  | .g8 => 8

/-- ODR_CODE[odr] (30_encoding.md R135). -/
def Params.code (p : Params) (odr : Fin 7) : Byte := p.odrCode[odr]

end Sys2Proof

namespace Sys2Proof.Machine

/-- The three-bit ODR index. -/
def odrBits (odr : Fin 7) : BitVec 3 := BitVec.ofNat 3 odr.val

/-- The ODR index a three-bit code selects; 7 is reserved (30_encoding.md R135). -/
def odrOfBits (c : BitVec 3) : Option (Fin 7) :=
  if h : c.toNat < 7 then some ⟨c.toNat, h⟩ else none

/-- The output data rate an index selects, in tenths of a hertz: 12.5·2^ODR Hz (10_state.md R44, 30_encoding.md
R135). A label; no rule of the block reads it. -/
def odrRateTenths (odr : Fin 7) : Nat := 125 * 2 ^ odr.val

/-- The value of CFG after a host write of `v` (10_state.md R45): a reserved code leaves its field unchanged. -/
def Cfg.written (c : Cfg) (v : Word) : Cfg where
  odr  := (odrOfBits (v.extractLsb' 0 3)).getD c.odr
  res  := v.getLsbD 3
  gsel := (GSel.ofCode (v.extractLsb' 4 2)).getD c.gsel

/-- `enc_ctrl1(res, gsel) = (res << 6) OR (gsel << 3)` (42_decoder.md R246). -/
def encCtrl1 (res : Bool) (gsel : GSel) : Byte :=
  ((BitVec.ofBool res).setWidth 8 <<< 6) ||| (gsel.code.setWidth 8 <<< 3)

/-- `b2 OR 0x80`: the same byte with the power-enable bit set (40_sequencer.md R176). -/
def withPower (b : Byte) : Byte := b ||| 0x80

/-- CONFIGURE's write-2 byte (40_sequencer.md R176). -/
def Snap.b2 (n : Snap) : Byte := encCtrl1 n.res n.gsel

/-- CONFIGURE's write-3 byte (40_sequencer.md R176). -/
def Snap.b3 (n : Snap) : Byte := withPower n.b2

/-- CONFIGURE's first request (40_sequencer.md R177). -/
def cfg1Req (s : State) : BusReq := .wr s.params.aDataRate (s.params.code s.snap.odr)

/-- CONFIGURE's second request (40_sequencer.md R180). -/
def cfg2Req (s : State) : BusReq := .wr s.params.aCtrl1 s.snap.b2

/-- CONFIGURE's third request (40_sequencer.md R183). -/
def cfg3Req (s : State) : BusReq := .wr s.params.aCtrl1 s.snap.b3

/-- READ_ID's request (40_sequencer.md R194). -/
def ridReq (s : State) : BusReq := .rd s.params.aWhoAmI

/-- SAMPLE's request (41_acquisition.md R212). -/
def smpReq (s : State) : BusReq := .rdseq s.params.aXoutL 6

/-- The 16-bit value of a low and a high byte, low byte first (41_acquisition.md R213, 20_memory.md R93). -/
def axisValue (low high : Byte) : Half := high ++ low

/-- `sext_32` of a raw value (10_state.md R49). -/
def sext32 (r : Half) : Word := r.signExtend 32

/-- `zext_32` of a byte (40_sequencer.md R196). -/
def zext32 (b : Byte) : Word := b.setWidth 32

/-- The decoding function of DECODE, field by field from bit 31 down (42_decoder.md R241). -/
def decodeCtrl1 (b : Byte) : Word :=
  let gsel : BitVec 2 := b.extractLsb' 3 2
  let prec : BitVec 5 := if b.getLsbD 6 then 12 else 8
  let fsg : BitVec 4 := if gsel = 0 then 2 else if gsel = 1 then 4 else if gsel = 2 then 8 else 0
  let grsv : BitVec 1 := if gsel = 3 then 1 else 0
  let low3 : BitVec 3 := b.extractLsb' 0 3
  let ie : BitVec 1 := b.extractLsb' 5 1
  let res : BitVec 1 := b.extractLsb' 6 1
  let pc : BitVec 1 := b.extractLsb' 7 1
  1#1 ++ 0#2 ++ prec ++ fsg ++ 0#3 ++ low3 ++ grsv ++ gsel ++ ie ++ res ++ pc ++ b

end Sys2Proof.Machine
end

