-- ==== Sys2Proof/Machine/Ops.lean ====
section
/-! DEFINITION. The operations the commands share: acceptance (40_sequencer.md R170), the issue and consume steps
(R172, R173), taking a TransportFailure (60_exceptions.md R275), the two host-interface faults (R273, R274), and
the clearing of their records (R281), which is all the return there is. -/

namespace Sys2Proof.Machine

/-- DroppedCommand (60_exceptions.md R274). -/
def droppedCommand (s : State) : State := { s with status := { s.status with drop := true } }

/-- IllegalCommand (60_exceptions.md R273). -/
def illegalCommand (s : State) : State := { s with status := { s.status with ill := true } }

/-- A host write of an illegal word to CMD: the busy check comes first (60_exceptions.md R278). -/
def illegalWord (s : State) : State := if s.status.busy then droppedCommand s else illegalCommand s

/-- What every acceptance does (40_sequencer.md R170), before the command's own acceptance effects. -/
def accept (i : Instr) (s : State) : State :=
  { s with
    status  := s.status.accepted i.opcode
    errinfo := .zero
    snap    := ⟨s.cfg.odr, s.cfg.res, s.cfg.gsel, i.imm⟩ }

/-- A legal word presented to CMD: dropped while BUSY, else accepted with the command's own effects
(40_sequencer.md R170, 60_exceptions.md R278). -/
def present (i : Instr) (effects : State → State) (s : State) : State :=
  if s.status.busy then droppedCommand s else effects (accept i s)

/-- The issue step, for pend = NONE (40_sequencer.md R172). -/
def issue (req : BusReq) (s : State) : State :=
  { s with pend := .issued req, trace := s.trace ++ [.req req] }

/-- The first half of the consume step: the slot is emptied (40_sequencer.md R173). -/
def consume (s : State) : State := { s with pend := .none }

/-- EPHASE (30_encoding.md R146). -/
def phaseCode : Phase → BitVec 2
  | .write  => 0
  | .select => 1
  | .data   => 2

/-- TransportFailure(op, step, phase, code, addr) (60_exceptions.md R275): what this block has for taking an
exception. -/
def transportFailure (op : BitVec 3) (step : BitVec 2) (phase : Phase) (code addr : Byte) (s : State) : State :=
  { s with
    errinfo := ⟨true, addr, phaseCode phase, step, op, code⟩
    status  := s.status.failed
    seq     := .idle }

/-- What the recorded failure code means, by the OPEN parameter TCODE_MEANING (60_exceptions.md R272). -/
def ErrInfo.reason (e : ErrInfo) : TransportReason := Config.tcodeMeaning e.tcode

/-- A host write of `v` to STATUS (10_state.md R43): how the host clears a fault's record (60_exceptions.md R281). -/
def statusWrite (v : Word) (s : State) : State := { s with status := s.status.written v }

/-- A host write of `v` to CFG (10_state.md R45). -/
def cfgWrite (v : Word) (s : State) : State := { s with cfg := s.cfg.written v }

/-- The command the Sequencer is running (10_state.md R60). -/
def running (s : State) : Option Instr :=
  match s.seq with
  | .idle => none
  | .cfg1 => some .configure
  | .cfg2 => some .configure
  | .cfg3 => some .configure
  | .rid  => some .readId
  | .smp  => some .sample
  | .dec  => some (.decode s.snap.imm)

end Sys2Proof.Machine
end

