-- ==== Sys2Proof/Machine/Configure.lean ====
section
/-! DEFINITION. CONFIGURE, the source's `create` (40_sequencer.md R175 to R189). -/

namespace Sys2Proof.Machine

/-- Acceptance effects (40_sequencer.md R175). -/
def configureEffects (s : State) : State :=
  { s with
    status   := { s.status with active := false }
    ctrl1Img := { s.ctrl1Img with imgv := false }
    seq      := .cfg1 }

/-- CFG2 consume, OK (40_sequencer.md R181). -/
def cfg2Done (s : State) : State := { s with ctrl1Img := ⟨s.snap.b2, true⟩, seq := .cfg3 }

/-- A CTRL1 write that failed: the image is no longer known (40_sequencer.md R182, R185). -/
def forgetImage (s : State) : State := { s with ctrl1Img := { s.ctrl1Img with imgv := false } }

/-- complete_configure (40_sequencer.md R188). -/
def completeConfigure (s : State) : State :=
  { s with
    ctrl1Img := ⟨s.snap.b3, true⟩
    status   := { s.status.completed with active := true }
    latch    := ⟨s.snap.odr, s.snap.res, s.snap.gsel, true⟩
    seq      := .idle }

/-- The Sequencer's step of CONFIGURE, one rule a line: R177, R178, R179 for write 1; R180, R181, R182 for write 2;
R183, R184, R185 for write 3. In every other state CONFIGURE has no step to take (assumption 7). -/
def configureStep (s : State) : State :=
  match s.seq, s.pend with
  | .cfg1, .none                     => issue (cfg1Req s) s
  | .cfg1, .answered _ (.ok [])      => { consume s with seq := .cfg2 }
  | .cfg1, .answered _ (.fail p c)   => transportFailure 1 1 p c s.params.aDataRate (consume s)
  | .cfg2, .none                     => issue (cfg2Req s) s
  | .cfg2, .answered _ (.ok [])      => cfg2Done (consume s)
  | .cfg2, .answered _ (.fail p c)   => transportFailure 1 2 p c s.params.aCtrl1 (forgetImage (consume s))
  | .cfg3, .none                     => issue (cfg3Req s) s
  | .cfg3, .answered _ (.ok [])      => completeConfigure (consume s)
  | .cfg3, .answered _ (.fail p c)   => transportFailure 1 3 p c s.params.aCtrl1 (forgetImage (consume s))
  | _, _                             => s

/-- CONFIGURE: the Host's step presents the word (40_sequencer.md R170, R175), the Sequencer's steps carry it out. -/
def execConfigure (s : State) : Host.Outcome State Fault Refusal :=
  match s.mover with
  | .host      => .next (present .configure configureEffects s)
  | .sequencer => .next (configureStep s)

end Sys2Proof.Machine
end

