-- ==== Sys2Proof/Machine/DecodeCmd.lean ====
section
/-! DEFINITION. DECODE, the control bit-field decoder (42_decoder.md R240 to R243). -/

namespace Sys2Proof.Machine

/-- Acceptance effects (42_decoder.md R240). -/
def decodeEffects (s : State) : State := { s with seq := .dec }

/-- DECODE completion, from snap.imm (42_decoder.md R242). -/
def completeDecode (s : State) : State :=
  { s with
    dec    := decodeCtrl1 s.snap.imm
    status := s.status.completed
    seq    := .idle }

/-- The Sequencer's one step of DECODE (42_decoder.md R242). In every other state DECODE has no step to take
(assumption 7). -/
def decodeStep (s : State) : State :=
  match s.seq with
  | .dec => completeDecode s
  | _    => s

/-- DECODE #imm: the Host's step presents the word (40_sequencer.md R170, 42_decoder.md R240), the Sequencer's step
completes it with the operand taken at acceptance (40_sequencer.md R171). -/
def execDecode (imm : Byte) (s : State) : Host.Outcome State Fault Refusal :=
  match s.mover with
  | .host      => .next (present (.decode imm) decodeEffects s)
  | .sequencer => .next (decodeStep s)

end Sys2Proof.Machine
end

