-- ==== Sys2Proof/Machine/ReadId.lean ====
section
/-! DEFINITION. READ_ID, the source's `device_id` (40_sequencer.md R193 to R198). -/

namespace Sys2Proof.Machine

/-- Acceptance effects (40_sequencer.md R193). -/
def readIdEffects (s : State) : State :=
  { s with status := { s.status with idvalid := false }, seq := .rid }

/-- Successful completion with the identity byte `b` (40_sequencer.md R196). -/
def completeReadId (b : Byte) (s : State) : State :=
  { s with
    id     := zext32 b
    status := { s.status.completed with idvalid := true }
    seq    := .idle }

/-- The Sequencer's step of READ_ID: R194, R195, R197 (40_sequencer.md). In every other state READ_ID has no step to
take (assumption 7). -/
def readIdStep (s : State) : State :=
  match s.seq, s.pend with
  | .rid, .none                    => issue (ridReq s) s
  | .rid, .answered _ (.ok [b])    => completeReadId b (consume s)
  | .rid, .answered _ (.fail p c)  => transportFailure 2 0 p c s.params.aWhoAmI (consume s)
  | _, _                           => s

/-- READ_ID: the Host's step presents the word (40_sequencer.md R170, R193), the Sequencer's steps carry it out. -/
def execReadId (s : State) : Host.Outcome State Fault Refusal :=
  match s.mover with
  | .host      => .next (present .readId readIdEffects s)
  | .sequencer => .next (readIdStep s)

end Sys2Proof.Machine
end

