-- ==== Sys2Proof/Machine/Convert.lean ====
section
/-! DEFINITION. The fixed-point to floating-point conversion (41_acquisition.md R213 to R221): an exact quotient of
integers, rounded once to binary32, to nearest with ties to even (00_scope.md R13). -/

namespace Sys2Proof

/-- CONV_DIV(gsel, res): 511.5 is pinned at (±2g, high resolution), the rest are parameters
(41_acquisition.md R214, 00_scope.md R6). -/
def Params.divisor (p : Params) (gsel : GSel) (res : Bool) : Word :=
  match gsel, res with
  | .g2, true  => 0x43FFC000
  | .g2, false => p.convDiv.g2Low
  | .g4, true  => p.convDiv.g4High
  | .g4, false => p.convDiv.g4Low
  | .g8, true  => p.convDiv.g8High
  | .g8, false => p.convDiv.g8Low

end Sys2Proof

namespace Sys2Proof.Machine

/-- A finite binary32 word as sign, integer significand and exponent of two: (-1)^neg · mant · 2^expo
(41_acquisition.md R221; subnormals as IEEE 754 has them, 00_scope.md R10, assumption 5). -/
structure Finite32 where
  neg  : Bool
  mant : Nat
  expo : Int
deriving DecidableEq, Repr

/-- The fields of a binary32 word; none for an infinity or a NaN (41_acquisition.md R221). -/
def finite32 (w : Word) : Option Finite32 :=
  let e := (w.extractLsb' 23 8).toNat
  let f := (w.extractLsb' 0 23).toNat
  if e = 255 then none
  else if e = 0 then some ⟨w.getLsbD 31, f, -149⟩
  else some ⟨w.getLsbD 31, 2 ^ 23 + f, (e : Int) - 150⟩

/-- num/den rounded to the nearest integer, ties to even. -/
def divNearestEven (num den : Nat) : Nat :=
  let q := num / den
  let r := num % den
  if 2 * r < den then q
  else if den < 2 * r then q + 1
  else q + q % 2

/-- The exponent E with 2^E ≤ num/den < 2^(E+1), for num and den not 0. -/
def floorLog2Ratio (num den : Nat) : Int :=
  let e : Int := (Nat.log2 num : Int) - (Nat.log2 den : Int)
  if den * 2 ^ e.toNat ≤ num * 2 ^ (-e).toNat then e else e - 1

/-- The exponent of the unit in the last place: 24 significant bits, and never below 2^(-149). -/
def ulpExponent (num den : Nat) : Int := max (floorLog2Ratio num den - 23) (-149)

/-- RNE32 of a rational num/den ≥ 0, as the binary32 bits below the sign (00_scope.md R13): the bits of the nearest
significand at its exponent, a carry into the next exponent included. Past the largest finite value it is infinity, as
IEEE 754 roundTiesToEven has it (92_eei_decisions.md D17; assumption 18). -/
def rne32Magnitude (num den : Nat) : Nat :=
  if num = 0 then 0
  else
    let k := ulpExponent num den
    min ((k + 149).toNat * 2 ^ 23 + divNearestEven (num * 2 ^ (-k).toNat) (den * 2 ^ k.toNat)) 0x7F800000

/-- The binary32 word of a sign and the bits below it. -/
def signedWord (neg : Bool) (mag : Nat) : Word := BitVec.ofBool neg ++ BitVec.ofNat 31 mag

/-- `RNE32(r / d)` for a divisor word `d` (41_acquisition.md R214), which is one IEEE binary32 division
(92_eei_decisions.md D17): the sign is that of the operands' signs, also on a zero or an infinite result
(assumption 18). Where `d` is no finite non-zero number there is no quotient to round, and the result is a free value
(assumption 4). -/
def conv (r : Half) (d : Word) : Word :=
  match finite32 d with
  | none => Config.freeQuotient r d
  | some v =>
    if v.mant = 0 then Config.freeQuotient r d
    else
      signedWord (r.msb != v.neg)
        (rne32Magnitude (r.toInt.natAbs * 2 ^ (-v.expo).toNat) (v.mant * 2 ^ v.expo.toNat))

/-- CONV(r, LATCH.LGSEL, LATCH.LRES) (41_acquisition.md R214). -/
def convLatched (s : State) (r : Half) : Word := conv r (s.params.divisor s.latch.lgsel s.latch.lres)

end Sys2Proof.Machine
end

