-- ==== Sys2Proof/Machine/Sample.lean ====
section
/-! DEFINITION. SAMPLE, the source's `accelerometer_sample` (41_acquisition.md R210 to R219). -/

namespace Sys2Proof.Machine

/-- Acceptance effects (41_acquisition.md R211). -/
def sampleEffects (s : State) : State :=
  { s with status := { s.status with svalid := false }, seq := .smp }

/-- Successful completion with the three raw values (41_acquisition.md R215): all nine writes in this one step, the
divisor read from LATCH (R214). -/
def completeSample (rx ry rz : Half) (s : State) : State :=
  { s with
    sx     := convLatched s rx
    sy     := convLatched s ry
    sz     := convLatched s rz
    rawx   := sext32 rx
    rawy   := sext32 ry
    rawz   := sext32 rz
    status := { s.status.completed with svalid := true }
    seq    := .idle }

/-- The Sequencer's step of SAMPLE: R212, R213 with R215, R216 (41_acquisition.md). In every other state SAMPLE has no
step to take (assumption 7). -/
def sampleStep (s : State) : State :=
  match s.seq, s.pend with
  | .smp, .none => issue (smpReq s) s
  | .smp, .answered _ (.ok [b0, b1, b2, b3, b4, b5]) =>
      completeSample (axisValue b0 b1) (axisValue b2 b3) (axisValue b4 b5) (consume s)
  | .smp, .answered _ (.fail p c) => transportFailure 3 0 p c s.params.aXoutL (consume s)
  | _, _ => s

/-- SAMPLE: the Host's step presents the word (40_sequencer.md R170, 41_acquisition.md R211), the Sequencer's steps
carry it out. -/
def execSample (s : State) : Host.Outcome State Fault Refusal :=
  match s.mover with
  | .host      => .next (present .sample sampleEffects s)
  | .sequencer => .next (sampleStep s)

end Sys2Proof.Machine
end

