-- ==== Sys2Proof/Machine/Dispatch.lean ====
section
/-! DEFINITION. One arm for each command: which meaning runs it (30_encoding.md R121). -/

namespace Sys2Proof.Machine

def exec (i : Instr) (s : State) : Host.Outcome State Fault Refusal :=
  match i with
  | .configure => Sys2Proof.Machine.execConfigure s
  | .readId => Sys2Proof.Machine.execReadId s
  | .sample => Sys2Proof.Machine.execSample s
  | .decode imm => Sys2Proof.Machine.execDecode imm s

end Sys2Proof.Machine
end

