-- ==== Sys2Proof/Machine/Registers.lean ====
section
/-! DEFINITION. The 32-bit words the host reads: the layout of every register with fields (10_state.md), the view
CTRL1_ENC (42_decoder.md R245) and the two read-only memories (42_decoder.md R250 to R256). `a ++ b` puts `a` in the
more significant place (00_scope.md R9). -/

namespace Sys2Proof.Machine

/-- STATUS (10_state.md R33). -/
def Status.word (t : Status) : Word :=
  0#16 ++ t.lastop ++ BitVec.ofBool t.idvalid ++ BitVec.ofBool t.svalid ++ BitVec.ofBool t.drop ++
    BitVec.ofBool t.ill ++ BitVec.ofBool t.active ++ BitVec.ofBool t.err ++ BitVec.ofBool t.done ++
    BitVec.ofBool t.busy

/-- CFG (10_state.md R44). -/
def Cfg.word (c : Cfg) : Word :=
  0#26 ++ c.gsel.code ++ BitVec.ofBool c.res ++ odrBits c.odr

/-- CTRL1_IMG (10_state.md R50). -/
def Ctrl1Img.word (c : Ctrl1Img) : Word := BitVec.ofBool c.imgv ++ 0#23 ++ c.img

/-- ERRINFO (10_state.md R52). -/
def ErrInfo.word (e : ErrInfo) : Word :=
  BitVec.ofBool e.evalid ++ 0#7 ++ e.eaddr ++ e.ephase ++ e.estep ++ 0#1 ++ e.eop ++ e.tcode

/-- LATCH (10_state.md R53). -/
def Latch.word (l : Latch) : Word :=
  BitVec.ofBool l.lvalid ++ 0#25 ++ l.lgsel.code ++ BitVec.ofBool l.lres ++ odrBits l.lodr

/-- CTRL1_ENC: the bytes a CONFIGURE accepted now would send (42_decoder.md R245). -/
def ctrl1Enc (p : Params) (c : Cfg) : Word :=
  0#8 ++ p.code c.odr ++ withPower (encCtrl1 c.res c.gsel) ++ encCtrl1 c.res c.gsel

/-- A PRESENT entry of the MAP ROM: KIND, AXIS, HIGH and ADDR (42_decoder.md R251). -/
def mapEntry (kind : BitVec 4) (axis : BitVec 2) (high : BitVec 1) (addr : Byte) : Word :=
  1#1 ++ 0#12 ++ high ++ axis ++ 0#4 ++ kind ++ addr

/-- MAP[i] (42_decoder.md R252); past the sixteen entries nothing is mapped. -/
def mapRom (p : Params) (i : Nat) : Word :=
  match i with
  | 0  => mapEntry 1 0 0 p.aWhoAmI
  | 1  => mapEntry 2 0 0 p.aCtrl1
  | 2  => mapEntry 2 0 0 p.aCtrl2
  | 3  => mapEntry 2 0 0 p.aCtrl3
  | 4  => mapEntry 3 0 0 p.aIntCtrl1
  | 5  => mapEntry 3 0 0 p.aIntCtrl2
  | 6  => mapEntry 4 0 0 p.aDataRate
  | 7  => mapEntry 5 0 0 p.aXoutL
  | 8  => mapEntry 5 0 1 (p.aXoutL + 1)
  | 9  => mapEntry 5 1 0 (p.aXoutL + 2)
  | 10 => mapEntry 5 1 1 (p.aXoutL + 3)
  | 11 => mapEntry 5 2 0 (p.aXoutL + 4)
  | 12 => mapEntry 5 2 1 (p.aXoutL + 5)
  | 13 => p.mapExtra[0]
  | 14 => p.mapExtra[1]
  | 15 => p.mapExtra[2]
  | _  => 0

/-- The field masks of control register 1 (30_encoding.md R131). -/
def pcMask : Byte := 0x80
/-- RES_MASK (30_encoding.md R131). -/
def resMask : Byte := 0x40
/-- IE_MASK (30_encoding.md R131). -/
def ieMask : Byte := 0x20
/-- GSEL_MASK (30_encoding.md R131). -/
def gselMask : Byte := 0x18

/-- A range code placed at bits 4:3 (30_encoding.md R132). -/
def gselByte (g : GSel) : Byte := g.code.setWidth 8 <<< 3

/-- The CONST ROM, word i at offset 0x80 + 4·i (42_decoder.md R256). -/
def constRom (p : Params) (i : Nat) : Word :=
  match i with
  | 0 => gselMask ++ ieMask ++ resMask ++ pcMask
  | 1 => Config.expectedId ++ gselByte .g8 ++ gselByte .g4 ++ gselByte .g2
  | 2 => p.code 3 ++ p.code 2 ++ p.code 1 ++ p.code 0
  | 3 => 0#8 ++ p.code 6 ++ p.code 5 ++ p.code 4
  | _ => 0

/-- The word at byte offset `off` of the host window (20_memory.md R81). CMD, reserved and unmapped offsets read 0
(R82, 60_exceptions.md R295; assumption 10). -/
def windowWord (s : State) (off : Nat) : Word :=
  match off with
  | 0x04 => s.status.word
  | 0x08 => s.cfg.word
  | 0x0C => s.id
  | 0x10 => s.sx
  | 0x14 => s.sy
  | 0x18 => s.sz
  | 0x1C => s.rawx
  | 0x20 => s.rawy
  | 0x24 => s.rawz
  | 0x28 => s.ctrl1Img.word
  | 0x2C => s.dec
  | 0x30 => s.errinfo.word
  | 0x34 => s.latch.word
  | 0x38 => ctrl1Enc s.params s.cfg
  | _ =>
    if 0x40 ≤ off ∧ off < 0x80 ∧ off % 4 = 0 then mapRom s.params ((off - 0x40) / 4)
    else if 0x80 ≤ off ∧ off < 0x90 ∧ off % 4 = 0 then constRom s.params ((off - 0x80) / 4)
    else 0

/-- A host access is defined only when it is a 32-bit access at a multiple of 4 (20_memory.md R82). Every other one is
RAZ/WI, not refused (assumption 17). -/
def accessDefined (width : Width) (off : Word) : Bool := width = .w32 ∧ off.extractLsb' 0 2 = 0

/-- What a host read returns (20_memory.md R82, R84). -/
def hostRead (s : State) (width : Width) (off : Word) : Word :=
  if accessDefined width off then windowWord s off.toNat else 0

end Sys2Proof.Machine
end

