-- ==== Sys2Proof/Machine/HostPort.lean ====
section
/-! DEFINITION. The Host's step: one access of the window (20_memory.md R82, R84), the operations of a host program
(30_encoding.md R151) and the Sequencer's turn. -/

namespace Sys2Proof.Machine

/-- A host write of `w` to CMD (40_sequencer.md R170): a legal word is the command it decodes to, presented by the
Host; an illegal one is dropped or sets ILL. -/
def cmdWrite (w : Word) (s : State) : Host.Outcome State Fault Refusal :=
  match decodeWord w with
  | .cmd i     => exec i { s with mover := .host }
  | .illegal _ => .next (illegalWord { s with mover := .host })

/-- A host write (20_memory.md R82, R84): CMD, STATUS and CFG take one, every other write is ignored. -/
def hostWrite (width : Width) (off v : Word) (s : State) : Host.Outcome State Fault Refusal :=
  if accessDefined width off then
    if off = 0x00 then cmdWrite v s
    else if off = 0x04 then .next (statusWrite v s)
    else if off = 0x08 then .next (cfgWrite v s)
    else .next s
  else .next s

/-- The Host's turn: the next operation of its program (30_encoding.md R151). A POLL reads once a turn and goes on only
when the read value passes (assumption 16). With no program left the Host does nothing. -/
def hostTurn (s : State) : Host.Outcome State Fault Refusal :=
  match s.prog with
  | [] => .next s
  | .write width off v :: rest => hostWrite width off v { s with prog := rest }
  | .read width off :: rest => .next { s with prog := rest, rdata := hostRead s width off }
  | .poll off mask v :: rest =>
    if hostRead s .w32 off &&& mask = v then .next { s with prog := rest, rdata := hostRead s .w32 off }
    else .next { s with rdata := hostRead s .w32 off }

/-- The Sequencer's turn: a step of the running command (40_sequencer.md R172, R173, 42_decoder.md R242); at IDLE it has
none to take. -/
def sequencerTurn (s : State) : Host.Outcome State Fault Refusal :=
  match running s with
  | none   => .next s
  | some i => exec i { s with mover := .sequencer }

/-- `EXEC cmd` (30_encoding.md R160). -/
def execProgram (i : Instr) : List HostOp := [.write .w32 0x00 (encode i), .poll 0x04 0x00000001 0x00000000]

/-- `CLRFLAGS` (30_encoding.md R160). -/
def clrFlagsProgram : List HostOp := [.write .w32 0x04 0x00000036]

/-- `SETCFG odr, res, gsel` (30_encoding.md R160). -/
def setCfgProgram (odr : BitVec 3) (res : BitVec 1) (gsel : BitVec 2) : List HostOp :=
  [.write .w32 0x08 ((gsel.setWidth 32 <<< 4) ||| (res.setWidth 32 <<< 3) ||| odr.setWidth 32)]

/-- `WAITIDLE` (30_encoding.md R160). -/
def waitIdleProgram : List HostOp := [.poll 0x04 0x00000001 0x00000000]

end Sys2Proof.Machine
end

