-- ==== Sys2Proof/Machine/Transport.lean ====
section
/-! DEFINITION. The Transport's step (20_memory.md R90, R91) and the reset action (70_reset_and_hazards.md R311). -/

namespace Sys2Proof.Machine

/-- Well-formedness of a response to a request (20_memory.md R90). -/
def respFits (req : BusReq) (resp : BusResp) : Bool :=
  match req, resp with
  | .wr _ _, .ok bytes        => bytes.length = 0
  | .rd _, .ok bytes          => bytes.length = 1
  | .rdseq _ n, .ok bytes     => bytes.length = n.toNat
  | .wr _ _, .fail phase _    => phase = .write
  | .rd _, .fail phase _      => phase ≠ .write
  | .rdseq _ _, .fail phase _ => phase ≠ .write

/-- The Transport answers (20_memory.md R91). With no request waiting, or with a response that is not well formed,
this is no step of the Transport and nothing happens (70_reset_and_hazards.md R311; assumption 6). -/
def transportTurn (resp : BusResp) (s : State) : State :=
  match s.pend with
  | .issued req =>
    if respFits req resp then { s with pend := .answered req resp, trace := s.trace ++ [.resp resp] } else s
  | _ => s

/-- The reset action (70_reset_and_hazards.md R311): every register and hidden state to its reset value, the trace
marked. The parameters and what belongs to the agents outside the block stay (assumption 13). -/
def resetTurn (s : State) : State :=
  { State.reset with
    trace  := s.trace ++ [.reset]
    prog   := s.prog
    turns  := s.turns
    rdata  := s.rdata
    mover  := s.mover
    params := s.params }

end Sys2Proof.Machine
end

