-- ==== Sys2Proof/Machine/Step.lean ====
section
/-! DEFINITION. One step: the agent whose turn it is moves (00_scope.md R8, 20_memory.md R100). -/

namespace Sys2Proof.Machine

/-- The step of the agent named by `t`, on the state whose schedule no longer holds that turn. -/
def stepTurn (t : Turn) (s : State) : Host.Outcome State Fault Refusal :=
  match t with
  | .host           => hostTurn s
  | .sequencer      => sequencerTurn s
  | .transport resp => .next (transportTurn resp s)
  | .reset          => .next (resetTurn s)

/-- The next turn of the schedule is taken. With no turn left no agent moves (92_eei_decisions.md D43: every step may
be delayed arbitrarily; assumption 1). -/
def step (s : State) : Host.Outcome State Fault Refusal :=
  match s.turns with
  | []        => .next s
  | t :: rest => stepTurn t { s with turns := rest }

/-- `s` with a host write of the command word `w` to CMD as the very next step (assumption 2). -/
def State.withFetchWord (s : State) (nbits w : Nat) : State :=
  { s with
    prog  := .write .w32 0x00 (BitVec.ofNat 32 (w % 2 ^ nbits)) :: s.prog
    turns := .host :: s.turns }

end Sys2Proof.Machine
end

