-- ==== Sys2Proof/Safety.lean ====
section
/-! DEFINITION. The terms claims are stated in: which rule's event the next step of a state is, the invariant every
step keeps, the bus protocol a trace must follow, and the rational value of a binary32 word. -/

namespace Sys2Proof.Machine

/-! ### Which event the next step is -/

/-- The next step is the reset action (70_reset_and_hazards.md R311). -/
def Resets (s : State) : Prop := s.turns.head? = some .reset

/-- The next step is a 32-bit host write of `v` at `off`. -/
def HostWrites (s : State) (off v : Word) : Prop :=
  s.turns.head? = some .host ∧ s.prog.head? = some (.write .w32 off v)

/-- The next step accepts the command `i` (40_sequencer.md R170). -/
def Accepts (s : State) (i : Instr) : Prop :=
  ∃ w, HostWrites s 0x00 w ∧ decodeWord w = .cmd i ∧ s.status.busy = false

/-- The next step is the Sequencer's consume step of an OK response in `q` (40_sequencer.md R173). -/
def ConsumesOk (s : State) (q : Seq) : Prop :=
  s.turns.head? = some .sequencer ∧ s.seq = q ∧ ∃ req bytes, s.pend = .answered req (.ok bytes)

/-- The next step is the Sequencer's consume step of a FAIL response in `q` (40_sequencer.md R173). -/
def ConsumesFail (s : State) (q : Seq) : Prop :=
  s.turns.head? = some .sequencer ∧ s.seq = q ∧ ∃ req phase code, s.pend = .answered req (.fail phase code)

/-- The next step completes a DECODE (42_decoder.md R242). -/
def CompletesDecode (s : State) : Prop := s.turns.head? = some .sequencer ∧ s.seq = .dec

/-- The next step is a failed completion (60_exceptions.md R275). -/
def FailsCommand (s : State) : Prop :=
  ConsumesFail s .cfg1 ∨ ConsumesFail s .cfg2 ∨ ConsumesFail s .cfg3 ∨ ConsumesFail s .rid ∨ ConsumesFail s .smp

/-! ### The invariant -/

/-- The bus request of the sequencer state (40_sequencer.md R172). -/
def requestOf (s : State) : Option BusReq :=
  match s.seq with
  | .idle => none
  | .cfg1 => some (cfg1Req s)
  | .cfg2 => some (cfg2Req s)
  | .cfg3 => some (cfg3Req s)
  | .rid  => some (ridReq s)
  | .smp  => some (smpReq s)
  | .dec  => none

/-- The slot holds only the running command's request, and only a response that fits it (10_state.md R62,
20_memory.md R90). -/
def pendFits (s : State) : Prop :=
  match s.pend with
  | .none              => True
  | .issued req        => requestOf s = some req
  | .answered req resp => requestOf s = some req ∧ respFits req resp = true

/-- Whether a CONFIGURE is running. -/
def configuring (q : Seq) : Bool := q = .cfg1 ∨ q = .cfg2 ∨ q = .cfg3

/-- CTRL1_IMG while a CONFIGURE runs: not known until write 2 is answered, then the write-2 byte
(40_sequencer.md R175, R181). -/
def imageFits (s : State) : Prop :=
  match s.seq with
  | .cfg1 => s.ctrl1Img.imgv = false
  | .cfg2 => s.ctrl1Img.imgv = false
  | .cfg3 => s.ctrl1Img = ⟨s.snap.b2, true⟩
  | _     => True

/-- What holds of the block at every time. -/
structure Inv (s : State) : Prop where
  /-- BUSY=1 exactly when seq ≠ IDLE (10_state.md R34). -/
  busy_iff : s.status.busy = true ↔ s.seq ≠ .idle
  /-- LASTOP is the running command's opcode (10_state.md R42). -/
  lastop_running : ∀ i, running s = some i → s.status.lastop = i.opcode
  /-- LASTOP is an opcode, or 0 (10_state.md R42). -/
  lastop_legal : s.status.lastop ∈ ([0, 1, 2, 3, 4] : List Byte)
  /-- While a command runs, DONE, ERR and ERRINFO are clear (10_state.md R35, R36, R52). -/
  running_clear : s.seq ≠ .idle → s.status.done = false ∧ s.status.err = false ∧ s.errinfo = .zero
  /-- DONE and ERR are never both 1 (10_state.md R36). -/
  done_or_err : s.status.done = false ∨ s.status.err = false
  /-- ERR comes with a record, DONE with none (60_exceptions.md R282). -/
  err_recorded : s.status.err = true → s.errinfo.evalid = true
  done_unrecorded : s.status.done = true → s.errinfo.evalid = false
  /-- ERRINFO is zero or describes the last accepted command (10_state.md R52, 60_exceptions.md R282). -/
  errinfo_zero : s.errinfo.evalid = false → s.errinfo = .zero
  errinfo_last : s.errinfo.evalid = true → s.errinfo.eop = s.status.lastop.extractLsb' 0 3
  /-- EPHASE 3 is never written (30_encoding.md R146). -/
  ephase_legal : s.errinfo.ephase ≠ 3
  /-- The slot fits the sequencer state (10_state.md R62). -/
  pend_fits : pendFits s
  /-- ACTIVE is 0 while a CONFIGURE runs (10_state.md R37). -/
  configuring_standby : configuring s.seq = true → s.status.active = false
  /-- CTRL1_IMG while a CONFIGURE runs. -/
  image_fits : imageFits s
  /-- ACTIVE=1: the image is known and is the write-3 byte of the latched configuration (40_sequencer.md R188). -/
  active_image : s.status.active = true →
    s.latch.lvalid = true ∧ s.ctrl1Img = ⟨withPower (encCtrl1 s.latch.lres s.latch.lgsel), true⟩
  /-- LATCH keeps its reset value until a CONFIGURE succeeds (10_state.md R53). -/
  latch_default : s.latch.lvalid = false → s.latch = ⟨5, true, .g2, false⟩
  /-- SVALID is 0 while a SAMPLE runs (10_state.md R40), IDVALID while a READ_ID runs (R41). -/
  sampling_invalid : s.seq = .smp → s.status.svalid = false
  reading_invalid : s.seq = .rid → s.status.idvalid = false
  /-- ID[31:8] reads 0 (10_state.md R47). -/
  id_byte : s.id.extractLsb' 8 24 = 0
  /-- DEC is 0 or the decoding of its own BYTE field (10_state.md R51). -/
  dec_decoded : s.dec = 0 ∨ decodeCtrl1 (s.dec.extractLsb' 0 8) = s.dec
  /-- RAWX, RAWY and RAWZ are sign extensions of 16 bits (10_state.md R49). -/
  rawx_signed : sext32 (s.rawx.extractLsb' 0 16) = s.rawx
  rawy_signed : sext32 (s.rawy.extractLsb' 0 16) = s.rawy
  rawz_signed : sext32 (s.rawz.extractLsb' 0 16) = s.rawz
  /-- The parameters meet their constraints (00_scope.md R6). -/
  params_wf : s.params.wf = true

/-! ### The bus protocol -/

/-- Where a bus trace stands between its events: which response or which further write of a CONFIGURE is due. -/
inductive BusStage where
  | quiet | waitW1 | afterW1 | waitW2 (b2 : Byte) | afterW2 (b2 : Byte) | waitW3 | waitRd | waitSeq
deriving DecidableEq, Repr

/-- The stage after a request; none where it breaks the protocol: the requests of 20_memory.md R88 and no others, one
outstanding (R101), CONFIGURE's writes in order, each after the OK of the one before, power bit clear in write 2 and
set in write 3 (40_sequencer.md R189 (a)), SAMPLE's one RDSEQ (41_acquisition.md R217 (a)). -/
def BusStage.afterReq (p : Params) (g : BusStage) (r : BusReq) : Option BusStage :=
  match g with
  | .quiet =>
    match r with
    | .wr a d    => if a = p.aDataRate ∧ d ∈ p.odrCode then some .waitW1 else none
    | .rd a      => if a = p.aWhoAmI then some .waitRd else none
    | .rdseq a n => if a = p.aXoutL ∧ n = 6 then some .waitSeq else none
  | .afterW1 =>
    match r with
    | .wr a d    => if a = p.aCtrl1 ∧ d.getLsbD 7 = false then some (.waitW2 d) else none
    | .rd _      => none
    | .rdseq _ _ => none
  | .afterW2 b2 =>
    match r with
    | .wr a d    => if a = p.aCtrl1 ∧ d = b2 ||| 0x80 then some .waitW3 else none
    | .rd _      => none
    | .rdseq _ _ => none
  | .waitW1   => none
  | .waitW2 _ => none
  | .waitW3   => none
  | .waitRd   => none
  | .waitSeq  => none

/-- The stage after a response where OK with `n` bytes, leading to `ok`, or a failure is due; a failure's phase is WRITE
exactly for a write (20_memory.md R90). -/
def BusStage.due (n : Nat) (write : Bool) (ok : BusStage) (resp : BusResp) : Option BusStage :=
  match resp with
  | .ok bytes     => if bytes.length = n then some ok else none
  | .fail phase _ => if decide (phase = .write) = write then some .quiet else none

/-- The stage after a response; none where no request is outstanding or the response is not well formed
(20_memory.md R90, R91). A failure ends the command (60_exceptions.md R275). -/
def BusStage.afterResp (g : BusStage) (resp : BusResp) : Option BusStage :=
  match g with
  | .waitW1    => BusStage.due 0 true .afterW1 resp
  | .waitW2 b2 => BusStage.due 0 true (.afterW2 b2) resp
  | .waitW3    => BusStage.due 0 true .quiet resp
  | .waitRd    => BusStage.due 1 false .quiet resp
  | .waitSeq   => BusStage.due 6 false .quiet resp
  | .quiet     => none
  | .afterW1   => none
  | .afterW2 _ => none

/-- The stage after one more event; none where the event breaks the protocol. A reset may come at any time
(70_reset_and_hazards.md R311). -/
def BusStage.after (p : Params) (g : BusStage) (e : BusEvent) : Option BusStage :=
  match e with
  | .reset  => some .quiet
  | .req r  => g.afterReq p r
  | .resp r => g.afterResp r

/-- The stage a whole trace reaches, from its oldest event; none where it breaks the protocol. -/
def stageOf (p : Params) (g : BusStage) : List BusEvent → Option BusStage
  | [] => some g
  | e :: rest => (g.after p e).bind fun g' => stageOf p g' rest

/-- Where the trace must stand, by seq and pend. -/
def expectedStage (s : State) : BusStage :=
  match s.seq, s.pend with
  | .cfg1, .issued _            => .waitW1
  | .cfg1, .answered _ (.ok _)  => .afterW1
  | .cfg2, .none                => .afterW1
  | .cfg2, .issued _            => .waitW2 s.snap.b2
  | .cfg2, .answered _ (.ok _)  => .afterW2 s.snap.b2
  | .cfg3, .none                => .afterW2 s.snap.b2
  | .cfg3, .issued _            => .waitW3
  | .rid, .issued _             => .waitRd
  | .smp, .issued _             => .waitSeq
  | _, _                        => .quiet

/-- The whole trace follows the protocol and stands where seq and pend say. -/
def TraceFollowsProtocol (s : State) : Prop := stageOf s.params .quiet s.trace = some (expectedStage s)

/-! ### Progress -/

/-- How many Sequencer and Transport steps the running command has left at most (70_reset_and_hazards.md R345). -/
def stepsLeft (s : State) : Nat :=
  let slot := match s.pend with
    | .none => 3
    | .issued _ => 2
    | .answered _ _ => 1
  match s.seq with
  | .idle => 0
  | .dec  => 1
  | .cfg1 => 6 + slot
  | .cfg2 => 3 + slot
  | .cfg3 => slot
  | .rid  => slot
  | .smp  => slot

/-! ### The value of a binary32 word -/

/-- The rational a finite binary32 word stands for (41_acquisition.md R221). -/
def f32Value (w : Word) : Option ℚ :=
  (finite32 w).map fun v => (if v.neg then -1 else 1) * (v.mant : ℚ) * (2 : ℚ) ^ v.expo

/-- The default divisor 1023/FS as a rational (41_acquisition.md R214). -/
def standardDivisor (g : GSel) : ℚ := 1023 / (g.fullScale : ℚ)

end Sys2Proof.Machine
end

