-- ==== Sys2Proof/Certificates/Slice0/Obligations.lean ====
section
/-! DEFINITION. The statements for the provers. Each docstring names the rules of spec/ it formalises. Fields `prog`,
`turns`, `rdata`, `mover` and `params` are the model's own (assumptions 1, 2, 3, 9). -/

open Sys2Proof Sys2Proof.Machine

/-! ### Decoding -/

/-- Command words written out from 30_encoding.md R122 and V1 decode to what they stand for. -/
def Obligations.SpecWordsDecode : Prop :=
  decodeWord 0b00000000000000000000000000000001#32 = .cmd .configure ∧
  decodeWord 0b00000000000000000000000000000010#32 = .cmd .readId ∧
  decodeWord 0b00000000000000000000000000000011#32 = .cmd .sample ∧
  decodeWord 0b00000000000000001111111100000100#32 = .cmd (.decode 0xFF) ∧
  decodeWord 0b00000000000000000000000000000000#32 = .illegal .reservedOpcode ∧
  decodeWord 0b00000000000000000000000100000011#32 = .illegal .immediateNonzero ∧
  decodeWord 0b10000000000000000000000000000100#32 = .illegal .reservedNonzero

/-- Decode and encode agree in both directions, on words and on their bytes, and no other list of bytes is a command
(30_encoding.md R122, R126, R150). -/
def Obligations.DecodeIffEncode : Prop :=
  (∀ (w : Word) (i : Instr), decodeWord w = .cmd i ↔ w = encode i) ∧
  (∀ (bs : List Byte) (i : Instr), decodeBytes bs = .cmd i ↔ bs = wordBytes (encode i))

/-- A word is a command exactly when one row of the opcode table matches it, and no two rows overlap
(30_encoding.md R122). -/
def Obligations.LegalWordsAreTheTable : Prop :=
  (∀ w : Word, (∃ i, decodeWord w = .cmd i) ↔ legalWord w = true) ∧
  (∀ w : Word, opcodeTable.Pairwise fun a b => ¬(a.hits w = true ∧ b.hits w = true))

/-- The illegal words, and what writing one while BUSY=0 does (30_encoding.md R124). -/
def Obligations.IllegalWordsSetIll : Prop :=
  (∀ w : Word, (∃ why, decodeWord w = .illegal why) ↔
    (w.extractLsb' 0 8 ∉ ([0x01, 0x02, 0x03, 0x04] : List Byte)) ∨ w.extractLsb' 16 16 ≠ 0 ∨
    (w.extractLsb' 0 8 ∈ ([0x01, 0x02, 0x03] : List Byte) ∧ w.extractLsb' 8 8 ≠ 0)) ∧
  (∀ (s : State) (w : Word) (why : Illegal) (rest : List Turn) (more : List HostOp),
    s.turns = .host :: rest → s.prog = .write .w32 0x00 w :: more → s.status.busy = false →
    decodeWord w = .illegal why →
    step s = .next { s with turns := rest, prog := more, mover := .host, status := { s.status with ill := true } }) ∧
  decodeWord 0x00000000 = .illegal .reservedOpcode

/-! ### The step and the acceptance of commands -/

/-- A step runs the decoded command: a CMD write whose word decodes to `i` is exec of `i` on the state past that host
operation, with the Host moving; a Sequencer turn is exec of the running command, with the Sequencer moving. -/
def Obligations.StepRunsTheDecodedCommand : Prop :=
  (∀ (s : State) (w : Word) (i : Instr) (rest : List Turn) (more : List HostOp),
    s.turns = .host :: rest → s.prog = .write .w32 0x00 w :: more → decodeWord w = .cmd i →
    step s = exec i { s with turns := rest, prog := more, mover := .host }) ∧
  (∀ (s : State) (i : Instr) (rest : List Turn),
    s.turns = .sequencer :: rest → running s = some i →
    step s = exec i { s with turns := rest, mover := .sequencer }) ∧
  (∀ (s : State) (nbits w : Nat) (i : Instr),
    decodeWord (BitVec.ofNat 32 (w % 2 ^ nbits)) = .cmd i →
    step (s.withFetchWord nbits w) = exec i { s with mover := .host })

/-- A host write of `w` to CMD, whole (40_sequencer.md R170; 60_exceptions.md R278). -/
def Obligations.CommandWriteHandled : Prop :=
  ∀ (s : State) (w : Word) (rest : List Turn) (more : List HostOp),
    s.turns = .host :: rest → s.prog = .write .w32 0x00 w :: more →
    let s0 : State := { s with turns := rest, prog := more, mover := .host }
    let accepted : State :=
      { s0 with
        status  := { s.status with busy := true, done := false, err := false, lastop := w.extractLsb' 0 8 }
        errinfo := ⟨false, 0, 0, 0, 0, 0⟩
        snap    := ⟨s.cfg.odr, s.cfg.res, s.cfg.gsel, w.extractLsb' 8 8⟩ }
    (s.status.busy = true → step s = .next { s0 with status := { s.status with drop := true } }) ∧
    (s.status.busy = false →
      (∀ why, decodeWord w = .illegal why →
        step s = .next { s0 with status := { s.status with ill := true } }) ∧
      (∀ i, decodeWord w = .cmd i →
        step s = .next
          (match i with
          | .configure =>
            { accepted with
              status   := { accepted.status with active := false }
              ctrl1Img := { s.ctrl1Img with imgv := false }
              seq      := .cfg1 }
          | .readId   => { accepted with status := { accepted.status with idvalid := false }, seq := .rid }
          | .sample   => { accepted with status := { accepted.status with svalid := false }, seq := .smp }
          | .decode _ => { accepted with seq := .dec })))

/-- Every command presented while BUSY=0 is accepted with its own acceptance effects (40_sequencer.md R170, R175,
R193; 41_acquisition.md R211; 42_decoder.md R240). -/
def Obligations.CommandsAreAccepted : Prop :=
  ∀ s : State, s.mover = .host → s.status.busy = false →
    exec .configure s = .next
      { s with
        status   := { s.status with busy := true, done := false, err := false, active := false, lastop := 0x01 }
        errinfo  := ⟨false, 0, 0, 0, 0, 0⟩
        snap     := ⟨s.cfg.odr, s.cfg.res, s.cfg.gsel, 0⟩
        ctrl1Img := { s.ctrl1Img with imgv := false }
        seq      := .cfg1 } ∧
    exec .readId s = .next
      { s with
        status  := { s.status with busy := true, done := false, err := false, idvalid := false, lastop := 0x02 }
        errinfo := ⟨false, 0, 0, 0, 0, 0⟩
        snap    := ⟨s.cfg.odr, s.cfg.res, s.cfg.gsel, 0⟩
        seq     := .rid } ∧
    exec .sample s = .next
      { s with
        status  := { s.status with busy := true, done := false, err := false, svalid := false, lastop := 0x03 }
        errinfo := ⟨false, 0, 0, 0, 0, 0⟩
        snap    := ⟨s.cfg.odr, s.cfg.res, s.cfg.gsel, 0⟩
        seq     := .smp } ∧
    (∀ imm : Byte, exec (.decode imm) s = .next
      { s with
        status  := { s.status with busy := true, done := false, err := false, lastop := 0x04 }
        errinfo := ⟨false, 0, 0, 0, 0, 0⟩
        snap    := ⟨s.cfg.odr, s.cfg.res, s.cfg.gsel, imm⟩
        seq     := .dec })

/-- SAMPLE acceptance effects; until its completion the six sample registers still hold the previous sample and SVALID
stays 0 (41_acquisition.md R211). -/
def Obligations.SampleAcceptanceEffects : Prop :=
  (∀ s : State, s.mover = .host → s.status.busy = false →
    ∃ t, exec .sample s = .next t ∧ t.status.svalid = false ∧ t.seq = .smp ∧
      t.sx = s.sx ∧ t.sy = s.sy ∧ t.sz = s.sz ∧ t.rawx = s.rawx ∧ t.rawy = s.rawy ∧ t.rawz = s.rawz) ∧
  (∀ s t : State, Inv s → s.seq = .smp → step s = .next t → ¬Resets s → ¬ConsumesOk s .smp →
    t.status.svalid = false ∧
    t.sx = s.sx ∧ t.sy = s.sy ∧ t.sz = s.sz ∧ t.rawx = s.rawx ∧ t.rawy = s.rawy ∧ t.rawz = s.rawz)

/-- Where a command traps at the host port: presented while BUSY=1 it is dropped, and nothing else changes
(60_exceptions.md R274). -/
def Obligations.BusyDropsEveryCommand : Prop :=
  ∀ (i : Instr) (s : State), s.mover = .host → s.status.busy = true →
    exec i s = .next { s with status := { s.status with drop := true } }

/-! ### The issue steps -/

/-- The issue step of each sequencer state sends its request (40_sequencer.md R177, R180, R183, R194). -/
def Obligations.IssueStepSendsTheRequest : Prop :=
  ∀ s : State, s.mover = .sequencer → s.pend = .none →
    let b2 : Byte := encCtrl1 s.snap.res s.snap.gsel
    let issued (r : BusReq) : State := { s with pend := .issued r, trace := s.trace ++ [.req r] }
    (s.seq = .cfg1 → exec .configure s = .next (issued (.wr s.params.aDataRate s.params.odrCode[s.snap.odr]))) ∧
    (s.seq = .cfg2 → exec .configure s = .next (issued (.wr s.params.aCtrl1 b2))) ∧
    (s.seq = .cfg3 → exec .configure s = .next (issued (.wr s.params.aCtrl1 (b2 ||| 0x80)))) ∧
    (s.seq = .rid → exec .readId s = .next (issued (.rd s.params.aWhoAmI))) ∧
    (s.seq = .smp → exec .sample s = .next (issued (.rdseq s.params.aXoutL 6)))

/-- The only requests a step appends to the trace are the five of 20_memory.md R88, and only with pend = NONE. -/
def Obligations.OnlyTheFiveRequests : Prop :=
  ∀ (s t : State) (r : BusReq), step s = .next t → t.trace = s.trace ++ [.req r] →
    s.pend = .none ∧
    (r = .wr s.params.aDataRate s.params.odrCode[s.snap.odr] ∨
     r = .wr s.params.aCtrl1 (encCtrl1 s.snap.res s.snap.gsel) ∨
     r = .wr s.params.aCtrl1 (encCtrl1 s.snap.res s.snap.gsel ||| 0x80) ∨
     r = .rd s.params.aWhoAmI ∨
     r = .rdseq s.params.aXoutL 6)

/-! ### CONFIGURE -/

/-- CFG1 and CFG2 consume, OK (40_sequencer.md R178, R181). -/
def Obligations.ConfigureGoesOnAfterOk : Prop :=
  ∀ (s : State) (r : BusReq), s.mover = .sequencer → s.pend = .answered r (.ok []) →
    (s.seq = .cfg1 → exec .configure s = .next { s with pend := .none, seq := .cfg2 }) ∧
    (s.seq = .cfg2 → exec .configure s = .next
      { s with pend := .none, ctrl1Img := ⟨encCtrl1 s.snap.res s.snap.gsel, true⟩, seq := .cfg3 })

/-- CFG3 consume, OK: complete_configure, and no other step sets ACTIVE or writes LATCH but reset
(40_sequencer.md R184, R188). -/
def Obligations.ConfigureCompletes : Prop :=
  (∀ (s : State) (r : BusReq), s.mover = .sequencer → s.seq = .cfg3 → s.pend = .answered r (.ok []) →
    exec .configure s = .next
      { s with
        pend     := .none
        ctrl1Img := ⟨encCtrl1 s.snap.res s.snap.gsel ||| 0x80, true⟩
        status   := { s.status with active := true, done := true, busy := false }
        latch    := ⟨s.snap.odr, s.snap.res, s.snap.gsel, true⟩
        seq      := .idle }) ∧
  (∀ s t : State, step s = .next t → t.latch ≠ s.latch → Resets s ∨ ConsumesOk s .cfg3) ∧
  (∀ s t : State, step s = .next t → s.status.active = false → t.status.active = true → ConsumesOk s .cfg3)

/-- The three write failures of CONFIGURE (40_sequencer.md R179, R182, R185; 60_exceptions.md R275), with the phase codes
of 30_encoding.md R146. -/
def Obligations.ConfigureFailsAtItsWrite : Prop :=
  ∀ (s : State) (r : BusReq) (p : Phase) (c : Byte), s.mover = .sequencer → s.pend = .answered r (.fail p c) →
    let phase : BitVec 2 :=
      match p with
      | .write  => 0
      | .select => 1
      | .data   => 2
    let failed (step : BitVec 2) (addr : Byte) (img : Ctrl1Img) : State :=
      { s with
        pend     := .none
        ctrl1Img := img
        errinfo  := ⟨true, addr, phase, step, 1, c⟩
        status   := { s.status with err := true, busy := false }
        seq      := .idle }
    (s.seq = .cfg1 → exec .configure s = .next (failed 1 s.params.aDataRate s.ctrl1Img)) ∧
    (s.seq = .cfg2 → exec .configure s = .next (failed 2 s.params.aCtrl1 { s.ctrl1Img with imgv := false })) ∧
    (s.seq = .cfg3 → exec .configure s = .next (failed 3 s.params.aCtrl1 { s.ctrl1Img with imgv := false }))

/-! ### READ_ID, SAMPLE, DECODE -/

/-- RID consume, OK (40_sequencer.md R195, R196). -/
def Obligations.ReadIdCompletes : Prop :=
  ∀ (s : State) (r : BusReq) (b : Byte), s.mover = .sequencer → s.seq = .rid → s.pend = .answered r (.ok [b]) →
    exec .readId s = .next
      { s with
        pend   := .none
        id     := b.setWidth 32
        status := { s.status with idvalid := true, done := true, busy := false }
        seq    := .idle }

/-- RID consume, FAIL (40_sequencer.md R197), with the phase codes of 30_encoding.md R146. -/
def Obligations.ReadIdFails : Prop :=
  ∀ (s : State) (r : BusReq) (p : Phase) (c : Byte), s.mover = .sequencer → s.seq = .rid →
    s.pend = .answered r (.fail p c) →
    let phase : BitVec 2 :=
      match p with
      | .write  => 0
      | .select => 1
      | .data   => 2
    exec .readId s = .next
      { s with
        pend    := .none
        errinfo := ⟨true, s.params.aWhoAmI, phase, 0, 2, c⟩
        status  := { s.status with err := true, busy := false }
        seq     := .idle }

/-- SMP consume, OK: byte assembly, conversion by LATCH's divisor, all nine writes in one step
(41_acquisition.md R213, R215). -/
def Obligations.SampleCompletes : Prop :=
  ∀ (s : State) (r : BusReq) (b0 b1 b2 b3 b4 b5 : Byte), s.mover = .sequencer → s.seq = .smp →
    s.pend = .answered r (.ok [b0, b1, b2, b3, b4, b5]) →
    let d : Word := s.params.divisor s.latch.lgsel s.latch.lres
    exec .sample s = .next
      { s with
        pend   := .none
        sx     := conv (b1 ++ b0) d
        sy     := conv (b3 ++ b2) d
        sz     := conv (b5 ++ b4) d
        rawx   := BitVec.signExtend 32 (b1 ++ b0)
        rawy   := BitVec.signExtend 32 (b3 ++ b2)
        rawz   := BitVec.signExtend 32 (b5 ++ b4)
        status := { s.status with svalid := true, done := true, busy := false }
        seq    := .idle }

/-- SMP consume, FAIL (41_acquisition.md R216), with the phase codes of 30_encoding.md R146. -/
def Obligations.SampleFails : Prop :=
  ∀ (s : State) (r : BusReq) (p : Phase) (c : Byte), s.mover = .sequencer → s.seq = .smp →
    s.pend = .answered r (.fail p c) →
    let phase : BitVec 2 :=
      match p with
      | .write  => 0
      | .select => 1
      | .data   => 2
    exec .sample s = .next
      { s with
        pend    := .none
        errinfo := ⟨true, s.params.aXoutL, phase, 0, 3, c⟩
        status  := { s.status with err := true, busy := false }
        seq     := .idle }

/-- DECODE completion, from the operand taken at acceptance (42_decoder.md R242). -/
def Obligations.DecodeCompletes : Prop :=
  ∀ (s : State) (imm : Byte), s.mover = .sequencer → s.seq = .dec →
    exec (.decode imm) s = .next
      { s with
        dec    := decodeCtrl1 s.snap.imm
        status := { s.status with done := true, busy := false }
        seq    := .idle }

/-- The decoding function, field by field, total on every byte (42_decoder.md R241). -/
def Obligations.DecodedFields : Prop :=
  ∀ b : Byte,
    let w : Word := decodeCtrl1 b
    w.extractLsb' 0 8 = b ∧
    w.getLsbD 8 = b.getLsbD 7 ∧
    w.getLsbD 9 = b.getLsbD 6 ∧
    w.getLsbD 10 = b.getLsbD 5 ∧
    w.extractLsb' 11 2 = b.extractLsb' 3 2 ∧
    w.getLsbD 13 = (b.extractLsb' 3 2 == 3) ∧
    w.extractLsb' 14 3 = b.extractLsb' 0 3 ∧
    w.extractLsb' 17 3 = 0 ∧
    w.extractLsb' 20 4 =
      (match (b.extractLsb' 3 2).toNat with
      | 0 => 2
      | 1 => 4
      | 2 => 8
      | _ => 0) ∧
    w.extractLsb' 24 5 = (if b.getLsbD 6 = true then 12 else 8) ∧
    w.extractLsb' 29 2 = 0 ∧
    w.getLsbD 31 = true

/-! ### The control register 1 encoder -/

/-- The encoding function: RES at bit 6, GSEL at bits 4:3, every other bit 0 (42_decoder.md R246). -/
def Obligations.EncodedByteFields : Prop :=
  ∀ (res : Bool) (g : GSel),
    let b : Byte := encCtrl1 res g
    b.getLsbD 7 = false ∧ b.getLsbD 6 = res ∧ b.getLsbD 5 = false ∧ b.extractLsb' 3 2 = g.code ∧
      b.extractLsb' 0 3 = 0

/-- Decoding an encoded byte gives its fields back, with the power bit clear and set (42_decoder.md R247). -/
def Obligations.EncodeDecodeRoundTrip : Prop :=
  ∀ (res : Bool) (g : GSel),
    let w : Word := decodeCtrl1 (encCtrl1 res g)
    let v : Word := decodeCtrl1 (encCtrl1 res g ||| 0x80)
    (w.getLsbD 9 = res ∧ w.extractLsb' 11 2 = g.code ∧ w.getLsbD 8 = false ∧ w.getLsbD 10 = false ∧
      w.extractLsb' 14 3 = 0 ∧ w.getLsbD 13 = false) ∧
    (v.getLsbD 9 = res ∧ v.extractLsb' 11 2 = g.code ∧ v.getLsbD 8 = true ∧ v.getLsbD 10 = false ∧
      v.extractLsb' 14 3 = 0 ∧ v.getLsbD 13 = false)

/-- CTRL1_ENC reads as a function of the current CFG, and a write to it is ignored (42_decoder.md R245). -/
def Obligations.EncoderViewOfCfg : Prop :=
  (∀ s : State,
    let w : Word := hostRead s .w32 0x38
    w.extractLsb' 24 8 = 0 ∧ w.extractLsb' 16 8 = s.params.odrCode[s.cfg.odr] ∧
    w.extractLsb' 8 8 = encCtrl1 s.cfg.res s.cfg.gsel ||| 0x80 ∧
    w.extractLsb' 0 8 = encCtrl1 s.cfg.res s.cfg.gsel) ∧
  hostRead { State.reset with params := .ti } .w32 0x38 = 0x0005C040 ∧
  (∀ (s : State) (v : Word), hostWrite .w32 0x38 v s = .next s)

/-! ### The host port -/

/-- A host write to STATUS clears DONE, ERR, ILL and DROP by bits 1, 2, 4 and 5, whether or not BUSY=1, and does nothing
else (10_state.md R43). -/
def Obligations.StatusWriteClears : Prop :=
  ∀ (s : State) (v : Word) (rest : List Turn) (more : List HostOp),
    s.turns = .host :: rest → s.prog = .write .w32 0x04 v :: more →
    step s = .next
      { s with
        turns  := rest
        prog   := more
        status :=
          { s.status with
            done := if v.getLsbD 1 = true then false else s.status.done
            err  := if v.getLsbD 2 = true then false else s.status.err
            ill  := if v.getLsbD 4 = true then false else s.status.ill
            drop := if v.getLsbD 5 = true then false else s.status.drop } }

/-- A host write to CFG: reserved codes leave their field, bits 31:6 are ignored, nothing but CFG changes, BUSY or not
(10_state.md R45). -/
def Obligations.CfgWriteKeepsLegalCodes : Prop :=
  ∀ (s : State) (v : Word) (rest : List Turn) (more : List HostOp),
    s.turns = .host :: rest → s.prog = .write .w32 0x08 v :: more →
    ∃ c : Cfg,
      step s = .next { s with turns := rest, prog := more, cfg := c } ∧
      (v.extractLsb' 0 3 ≠ 7 → BitVec.ofNat 3 c.odr.val = v.extractLsb' 0 3) ∧
      (v.extractLsb' 0 3 = 7 → c.odr = s.cfg.odr) ∧
      c.res = v.getLsbD 3 ∧
      (v.extractLsb' 4 2 ≠ 3 → c.gsel.code = v.extractLsb' 4 2) ∧
      (v.extractLsb' 4 2 = 3 → c.gsel = s.cfg.gsel)

/-- Undefined accesses and accesses to read-only, reserved, unmapped and write-only offsets: nothing is written, 0 is read
where there is nothing to read, no flag is set (20_memory.md R82, 60_exceptions.md R295). That offsets from 0x100 on are
unmapped is assumption 10, that undefined accesses are RAZ/WI and not refused assumption 17. -/
def Obligations.UndefinedAccessesDoNothing : Prop :=
  (∀ (s : State) (width : Width) (off v : Word) (rest : List Turn) (more : List HostOp),
    s.turns = .host :: rest → s.prog = .write width off v :: more →
    (width ≠ .w32 ∨ off.toNat % 4 ≠ 0 ∨ off.toNat ∉ [0x00, 0x04, 0x08]) →
    step s = .next { s with turns := rest, prog := more }) ∧
  (∀ (s : State) (width : Width) (off : Word),
    (width ≠ .w32 ∨ off.toNat % 4 ≠ 0 ∨ off.toNat = 0x00 ∨ off.toNat = 0x3C ∨ 0x90 ≤ off.toNat) →
    hostRead s width off = 0)

/-- A host read changes no register, and neither does a POLL, which goes on only when the read value passes
(20_memory.md R84; 30_encoding.md R151). The value read is shown in `rdata` (assumption 9). -/
def Obligations.ReadsChangeNothing : Prop :=
  (∀ (s : State) (width : Width) (off : Word) (rest : List Turn) (more : List HostOp),
    s.turns = .host :: rest → s.prog = .read width off :: more →
    step s = .next { s with turns := rest, prog := more, rdata := hostRead s width off }) ∧
  (∀ (s : State) (off mask v : Word) (rest : List Turn) (more : List HostOp),
    s.turns = .host :: rest → s.prog = .poll off mask v :: more →
    (hostRead s .w32 off &&& mask = v →
      step s = .next { s with turns := rest, prog := more, rdata := hostRead s .w32 off }) ∧
    (hostRead s .w32 off &&& mask ≠ v →
      step s = .next { s with turns := rest, rdata := hostRead s .w32 off }))

/-- The layouts of the registers with fields, as the host reads them (10_state.md R33, R44, R50, R52, R53), and the plain
registers at their offsets (20_memory.md R81). -/
def Obligations.RegisterLayouts : Prop :=
  ∀ s : State,
    (let w : Word := hostRead s .w32 0x04
     w.getLsbD 0 = s.status.busy ∧ w.getLsbD 1 = s.status.done ∧ w.getLsbD 2 = s.status.err ∧
     w.getLsbD 3 = s.status.active ∧ w.getLsbD 4 = s.status.ill ∧ w.getLsbD 5 = s.status.drop ∧
     w.getLsbD 6 = s.status.svalid ∧ w.getLsbD 7 = s.status.idvalid ∧
     w.extractLsb' 8 8 = s.status.lastop ∧ w.extractLsb' 16 16 = 0) ∧
    (let w : Word := hostRead s .w32 0x08
     w.extractLsb' 0 3 = BitVec.ofNat 3 s.cfg.odr.val ∧ w.extractLsb' 0 3 ≠ 7 ∧ w.getLsbD 3 = s.cfg.res ∧
     w.extractLsb' 4 2 = s.cfg.gsel.code ∧ w.extractLsb' 4 2 ≠ 3 ∧ w.extractLsb' 6 26 = 0) ∧
    (let w : Word := hostRead s .w32 0x28
     w.extractLsb' 0 8 = s.ctrl1Img.img ∧ w.extractLsb' 8 23 = 0 ∧ w.getLsbD 31 = s.ctrl1Img.imgv) ∧
    (let w : Word := hostRead s .w32 0x30
     w.extractLsb' 0 8 = s.errinfo.tcode ∧ w.extractLsb' 8 3 = s.errinfo.eop ∧ w.getLsbD 11 = false ∧
     w.extractLsb' 12 2 = s.errinfo.estep ∧ w.extractLsb' 14 2 = s.errinfo.ephase ∧
     w.extractLsb' 16 8 = s.errinfo.eaddr ∧ w.extractLsb' 24 7 = 0 ∧ w.getLsbD 31 = s.errinfo.evalid) ∧
    (let w : Word := hostRead s .w32 0x34
     w.extractLsb' 0 3 = BitVec.ofNat 3 s.latch.lodr.val ∧ w.getLsbD 3 = s.latch.lres ∧
     w.extractLsb' 4 2 = s.latch.lgsel.code ∧ w.extractLsb' 6 25 = 0 ∧ w.getLsbD 31 = s.latch.lvalid) ∧
    hostRead s .w32 0x0C = s.id ∧ hostRead s .w32 0x10 = s.sx ∧ hostRead s .w32 0x14 = s.sy ∧
    hostRead s .w32 0x18 = s.sz ∧ hostRead s .w32 0x1C = s.rawx ∧ hostRead s .w32 0x20 = s.rawy ∧
    hostRead s .w32 0x24 = s.rawz ∧ hostRead s .w32 0x2C = s.dec

/-- The MAP ROM's sixteen words (42_decoder.md R252). -/
def Obligations.MapRomContents : Prop :=
  ∀ s : State,
    let p : Params := s.params
    let z (b : Byte) : Word := b.setWidth 32
    hostRead s .w32 0x40 = 0x80000100 ||| z p.aWhoAmI ∧
    hostRead s .w32 0x44 = 0x80000200 ||| z p.aCtrl1 ∧
    hostRead s .w32 0x48 = 0x80000200 ||| z p.aCtrl2 ∧
    hostRead s .w32 0x4C = 0x80000200 ||| z p.aCtrl3 ∧
    hostRead s .w32 0x50 = 0x80000300 ||| z p.aIntCtrl1 ∧
    hostRead s .w32 0x54 = 0x80000300 ||| z p.aIntCtrl2 ∧
    hostRead s .w32 0x58 = 0x80000400 ||| z p.aDataRate ∧
    hostRead s .w32 0x5C = 0x80000500 ||| z p.aXoutL ∧
    hostRead s .w32 0x60 = 0x80040500 ||| z (p.aXoutL + 1) ∧
    hostRead s .w32 0x64 = 0x80010500 ||| z (p.aXoutL + 2) ∧
    hostRead s .w32 0x68 = 0x80050500 ||| z (p.aXoutL + 3) ∧
    hostRead s .w32 0x6C = 0x80020500 ||| z (p.aXoutL + 4) ∧
    hostRead s .w32 0x70 = 0x80060500 ||| z (p.aXoutL + 5) ∧
    hostRead s .w32 0x74 = p.mapExtra[0] ∧
    hostRead s .w32 0x78 = p.mapExtra[1] ∧
    hostRead s .w32 0x7C = p.mapExtra[2]

/-- The CONST ROM's four words (42_decoder.md R256). -/
def Obligations.ConstRomContents : Prop :=
  ∀ s : State,
    let code (i : Fin 7) : Byte := s.params.odrCode[i]
    hostRead s .w32 0x80 = 0x18204080 ∧
    hostRead s .w32 0x84 = 0x35100800 ∧
    (let w : Word := hostRead s .w32 0x88
     w.extractLsb' 24 8 = code 3 ∧ w.extractLsb' 16 8 = code 2 ∧ w.extractLsb' 8 8 = code 1 ∧
     w.extractLsb' 0 8 = code 0) ∧
    (let w : Word := hostRead s .w32 0x8C
     w.extractLsb' 24 8 = 0 ∧ w.extractLsb' 16 8 = code 6 ∧ w.extractLsb' 8 8 = code 5 ∧
     w.extractLsb' 0 8 = code 4)

/-- The two ROMs never change, whatever step is taken (42_decoder.md R250; 10_state.md R55, R56). -/
def Obligations.RomsNeverChange : Prop :=
  ∀ (s t : State) (off : Word), step s = .next t → 0x40 ≤ off.toNat → off.toNat < 0x90 →
    hostRead t .w32 off = hostRead s .w32 off

/-- Every address the block sends is ADDR of a PRESENT map entry among i = 0, 1, 6 and 7 (42_decoder.md R254). -/
def Obligations.SentAddressesAreMapped : Prop :=
  ∀ (s : State) (r : BusReq), requestOf s = some r →
    ∃ i ∈ [0, 1, 6, 7], (mapRom s.params i).getLsbD 31 = true ∧
      (mapRom s.params i).extractLsb' 0 8 =
        (match r with
        | .wr a _    => a
        | .rd a      => a
        | .rdseq a _ => a)

/-! ### The Transport and reset -/

/-- The Transport's step: it answers a waiting request with any well-formed response and records it; without a waiting
request nothing reaches the block (20_memory.md R91; 70_reset_and_hazards.md R311). A response that is not well formed
is no step of the Transport (assumption 6). -/
def Obligations.TransportAnswers : Prop :=
  ∀ (s : State) (resp : BusResp) (rest : List Turn), s.turns = .transport resp :: rest →
    (∀ req, s.pend = .issued req → respFits req resp = true →
      step s = .next
        { s with turns := rest, pend := .answered req resp, trace := s.trace ++ [.resp resp] }) ∧
    ((∀ req, s.pend = .issued req → respFits req resp = false) → step s = .next { s with turns := rest })

/-- The well-formed responses (20_memory.md R90). -/
def Obligations.WellFormedResponses : Prop :=
  (∀ a d bytes, respFits (.wr a d) (.ok bytes) = true ↔ bytes = []) ∧
  (∀ a bytes, respFits (.rd a) (.ok bytes) = true ↔ ∃ b0, bytes = [b0]) ∧
  (∀ a n bytes, respFits (.rdseq a n) (.ok bytes) = true ↔ bytes.length = n.toNat) ∧
  (∀ a d phase code, respFits (.wr a d) (.fail phase code) = true ↔ phase = .write) ∧
  (∀ a phase code, respFits (.rd a) (.fail phase code) = true ↔ phase = .select ∨ phase = .data) ∧
  (∀ a n phase code, respFits (.rdseq a n) (.fail phase code) = true ↔ phase = .select ∨ phase = .data)

/-- A transport that never answers leaves the command running: no other turn but reset takes an unanswered request away,
and BUSY stays 1 (60_exceptions.md R284). -/
def Obligations.UnansweredRequestStaysPending : Prop :=
  ∀ (s t : State) (req : BusReq), Inv s → s.pend = .issued req → step s = .next t → ¬Resets s →
    (∀ resp, s.turns.head? ≠ some (.transport resp)) →
    t.pend = .issued req ∧ t.seq = s.seq ∧ t.status.busy = true

/-- The reset state (70_reset_and_hazards.md R310); CTRL1_ENC for whatever parameters, the ROMs not changed by reset. -/
def Obligations.ResetHoldsTheSpecValues : Prop :=
  (let s : State := State.reset
   hostRead s .w32 0x00 = 0 ∧ hostRead s .w32 0x04 = 0 ∧ hostRead s .w32 0x08 = 0x0000000D ∧
   hostRead s .w32 0x0C = 0 ∧ hostRead s .w32 0x10 = 0 ∧ hostRead s .w32 0x14 = 0 ∧ hostRead s .w32 0x18 = 0 ∧
   hostRead s .w32 0x1C = 0 ∧ hostRead s .w32 0x20 = 0 ∧ hostRead s .w32 0x24 = 0 ∧ hostRead s .w32 0x28 = 0 ∧
   hostRead s .w32 0x2C = 0 ∧ hostRead s .w32 0x30 = 0 ∧ hostRead s .w32 0x34 = 0x0000000D ∧
   hostRead s .w32 0x38 = 0#8 ++ s.params.odrCode[(5 : Fin 7)] ++ 0xC0#8 ++ 0x40#8 ∧
   s.seq = .idle ∧ s.snap = ⟨5, true, .g2, 0⟩ ∧ s.pend = .none) ∧
  hostRead { State.reset with params := .ti } .w32 0x38 = 0x0005C040 ∧
  (∀ (s : State) (off : Word), 0x40 ≤ off.toNat → off.toNat < 0x90 →
    hostRead (resetTurn s) .w32 off = hostRead s .w32 off)

/-- The reset action: one step, from every state, sets every register and hidden state and marks the trace; no later
response to an abandoned request reaches the block (70_reset_and_hazards.md R311). What belongs to the agents outside
the block stays (assumption 13). -/
def Obligations.ResetIsOneStep : Prop :=
  ∀ (s : State) (rest : List Turn), s.turns = .reset :: rest →
    ∃ t : State,
      step s = .next t ∧
      t = { s with
        status   := ⟨false, false, false, false, false, false, false, false, 0⟩
        cfg      := ⟨5, true, .g2⟩
        id       := 0
        sx       := 0
        sy       := 0
        sz       := 0
        rawx     := 0
        rawy     := 0
        rawz     := 0
        ctrl1Img := ⟨0, false⟩
        dec      := 0
        errinfo  := ⟨false, 0, 0, 0, 0, 0⟩
        latch    := ⟨5, true, .g2, false⟩
        seq      := .idle
        snap     := ⟨5, true, .g2, 0⟩
        pend     := .none
        trace    := s.trace ++ [.reset]
        turns    := rest } ∧
      ∀ (resp : BusResp) (more : List Turn),
        step { t with turns := .transport resp :: more } = .next { t with turns := more }

/-! ### The conversion -/

/-- The divisor of each pair: 511.5 at (±2g, high resolution) whatever the parameters, that pair's own parameter at each
of the five others, and 1023/FS for every pair with the default CONV_DIV (00_scope.md R6; 41_acquisition.md R214,
R218 (a)). -/
def Obligations.DivisorValues : Prop :=
  (∀ p : Params, f32Value (p.divisor .g2 true) = some (1023 / 2)) ∧
  (∀ (p : Params) (g2Low g4Low g4High g8Low g8High : Word), p.convDiv = ⟨g2Low, g4Low, g4High, g8Low, g8High⟩ →
    p.divisor .g2 false = g2Low ∧ p.divisor .g4 false = g4Low ∧ p.divisor .g4 true = g4High ∧
    p.divisor .g8 false = g8Low ∧ p.divisor .g8 true = g8High) ∧
  (∀ (p : Params) (g : GSel) (res : Bool), p.convDiv = .standard →
    f32Value (p.divisor g res) = some (standardDivisor g))

/-- The pinned conversion's examples, whatever the parameters (41_acquisition.md R222). -/
def Obligations.PinnedConversionExamples : Prop :=
  ∀ p : Params,
    let d : Word := p.divisor .g2 true
    conv (BitVec.ofInt 16 0) d = 0x00000000 ∧
    conv (BitVec.ofInt 16 1023) d = 0x40000000 ∧
    conv (BitVec.ofInt 16 1000) d = 0x3FFA3E90 ∧
    conv (BitVec.ofInt 16 (-1000)) d = 0xBFFA3E90 ∧
    conv (BitVec.ofInt 16 8208) d = 0x41806018

/-- CONV is the exact quotient rounded once to the nearest binary32 value, ties to the even word, for every raw value and
every finite non-zero divisor (41_acquisition.md R214; 00_scope.md R13). Below the overflow bound no binary32 value is
nearer, and where another is as near the result's last bit is 0. From the bound on it is the infinity of the quotient's
sign, and a zero raw value gives a zero of the divisor's sign: the model's reading of 92_eei_decisions.md D17 as one
IEEE division (assumption 18). Subnormals are read as IEEE 754 has them (assumption 5). -/
def Obligations.ConversionRoundsToNearest : Prop :=
  ∀ (r : Half) (d : Word) (v : ℚ), f32Value d = some v → v ≠ 0 →
    (|(r.toInt : ℚ) / v| < (2 ^ 24 - 1 / 2) * 2 ^ 104 →
      ∃ x : ℚ,
        f32Value (conv r d) = some x ∧
        ∀ (w : Word) (y : ℚ), f32Value w = some y →
          |(r.toInt : ℚ) / v - x| ≤ |(r.toInt : ℚ) / v - y| ∧
          (y ≠ x → |(r.toInt : ℚ) / v - x| = |(r.toInt : ℚ) / v - y| → (conv r d).getLsbD 0 = false)) ∧
    ((2 ^ 24 - 1 / 2) * 2 ^ 104 ≤ |(r.toInt : ℚ) / v| →
      conv r d = if 0 < (r.toInt : ℚ) / v then 0x7F800000 else 0xFF800000) ∧
    (r = 0 → conv r d = if 0 < v then 0x00000000 else 0x80000000)

/-- With the default divisors: zero gives +0.0, and every other raw value a normal number with the raw value's sign, so no
NaN, infinity or subnormal (41_acquisition.md R218 (c), (d)). -/
def Obligations.ConversionIsNormalOrZero : Prop :=
  ∀ (p : Params) (g : GSel) (res : Bool) (r : Half), p.convDiv = .standard →
    (r = 0 → conv r (p.divisor g res) = 0) ∧
    (r ≠ 0 →
      let w : Word := conv r (p.divisor g res)
      w.getLsbD 31 = r.msb ∧ 1 ≤ (w.extractLsb' 23 8).toNat ∧ (w.extractLsb' 23 8).toNat ≤ 254)

/-- Odd symmetry: negating a raw value other than 0 and -32768 flips the sign bit and nothing else, for every divisor
parameter that is a finite non-zero number. For the default divisors it is 41_acquisition.md R218 (e); in general it
follows from R214 and 00_scope.md R13, with the model's reading of subnormals (assumption 5, PRESUMED, unsafe) and of
quotients past the finite values (assumption 18). -/
def Obligations.ConversionIsOdd : Prop :=
  ∀ (r : Half) (d : Word) (v : ℚ), f32Value d = some v → v ≠ 0 → r ≠ 0 → r ≠ 0x8000 →
    conv (-r) d = conv r d ^^^ 0x80000000

/-- With the default divisors a conversion is exact exactly when 1023 divides the raw value
(41_acquisition.md R218 (f)). -/
def Obligations.ConversionExactPoints : Prop :=
  ∀ (p : Params) (g : GSel) (res : Bool) (r : Half), p.convDiv = .standard →
    (f32Value (conv r (p.divisor g res)) = some ((r.toInt : ℚ) / standardDivisor g) ↔ (1023 : ℤ) ∣ r.toInt)

/-! ### Frames -/

/-- What CONFIGURE leaves unchanged, in the Host's step (acceptance or drop) and in the Sequencer's. -/
def Obligations.ConfigureFrame : Prop :=
  ∀ s t : State, exec .configure s = .next t →
    t.cfg = s.cfg ∧ t.id = s.id ∧ t.sx = s.sx ∧ t.sy = s.sy ∧ t.sz = s.sz ∧
    t.rawx = s.rawx ∧ t.rawy = s.rawy ∧ t.rawz = s.rawz ∧ t.dec = s.dec ∧
    t.prog = s.prog ∧ t.turns = s.turns ∧ t.rdata = s.rdata ∧ t.mover = s.mover ∧ t.params = s.params ∧
    t.status.ill = s.status.ill ∧ t.status.svalid = s.status.svalid ∧ t.status.idvalid = s.status.idvalid ∧
    (s.mover = .host → t.latch = s.latch ∧ t.pend = s.pend ∧ t.trace = s.trace ∧
      t.ctrl1Img.img = s.ctrl1Img.img) ∧
    (s.mover = .sequencer → t.snap = s.snap ∧ t.status.drop = s.status.drop ∧ t.status.lastop = s.status.lastop ∧
      (t.trace = s.trace ∨
        s.pend = .none ∧ ∃ r, requestOf s = some r ∧ t.trace = s.trace ++ [.req r] ∧ t.pend = .issued r))

/-- What READ_ID leaves unchanged, in the Host's step and in the Sequencer's. -/
def Obligations.ReadIdFrame : Prop :=
  ∀ s t : State, exec .readId s = .next t →
    t.cfg = s.cfg ∧ t.sx = s.sx ∧ t.sy = s.sy ∧ t.sz = s.sz ∧
    t.rawx = s.rawx ∧ t.rawy = s.rawy ∧ t.rawz = s.rawz ∧ t.ctrl1Img = s.ctrl1Img ∧ t.dec = s.dec ∧
    t.latch = s.latch ∧
    t.prog = s.prog ∧ t.turns = s.turns ∧ t.rdata = s.rdata ∧ t.mover = s.mover ∧ t.params = s.params ∧
    t.status.ill = s.status.ill ∧ t.status.svalid = s.status.svalid ∧ t.status.active = s.status.active ∧
    (s.mover = .host → t.id = s.id ∧ t.pend = s.pend ∧ t.trace = s.trace) ∧
    (s.mover = .sequencer → t.snap = s.snap ∧ t.status.drop = s.status.drop ∧ t.status.lastop = s.status.lastop ∧
      (t.trace = s.trace ∨
        s.pend = .none ∧ ∃ r, requestOf s = some r ∧ t.trace = s.trace ++ [.req r] ∧ t.pend = .issued r))

/-- What SAMPLE leaves unchanged, in the Host's step and in the Sequencer's. -/
def Obligations.SampleFrame : Prop :=
  ∀ s t : State, exec .sample s = .next t →
    t.cfg = s.cfg ∧ t.id = s.id ∧ t.ctrl1Img = s.ctrl1Img ∧ t.dec = s.dec ∧ t.latch = s.latch ∧
    t.prog = s.prog ∧ t.turns = s.turns ∧ t.rdata = s.rdata ∧ t.mover = s.mover ∧ t.params = s.params ∧
    t.status.ill = s.status.ill ∧ t.status.idvalid = s.status.idvalid ∧ t.status.active = s.status.active ∧
    (s.mover = .host → t.sx = s.sx ∧ t.sy = s.sy ∧ t.sz = s.sz ∧ t.rawx = s.rawx ∧ t.rawy = s.rawy ∧
      t.rawz = s.rawz ∧ t.pend = s.pend ∧ t.trace = s.trace) ∧
    (s.mover = .sequencer → t.snap = s.snap ∧ t.status.drop = s.status.drop ∧ t.status.lastop = s.status.lastop ∧
      (t.trace = s.trace ∨
        s.pend = .none ∧ ∃ r, requestOf s = some r ∧ t.trace = s.trace ++ [.req r] ∧ t.pend = .issued r))

/-- What DECODE leaves unchanged; it sends nothing on the bus and never sets ERR (42_decoder.md R240, R242). -/
def Obligations.DecodeFrame : Prop :=
  ∀ (imm : Byte) (s t : State), exec (.decode imm) s = .next t →
    t.cfg = s.cfg ∧ t.id = s.id ∧ t.sx = s.sx ∧ t.sy = s.sy ∧ t.sz = s.sz ∧
    t.rawx = s.rawx ∧ t.rawy = s.rawy ∧ t.rawz = s.rawz ∧ t.ctrl1Img = s.ctrl1Img ∧ t.latch = s.latch ∧
    t.pend = s.pend ∧ t.trace = s.trace ∧
    t.prog = s.prog ∧ t.turns = s.turns ∧ t.rdata = s.rdata ∧ t.mover = s.mover ∧ t.params = s.params ∧
    t.status.ill = s.status.ill ∧ t.status.svalid = s.status.svalid ∧ t.status.idvalid = s.status.idvalid ∧
    t.status.active = s.status.active ∧ (t.status.err = true → s.status.err = true) ∧
    (s.mover = .host → t.dec = s.dec) ∧
    (s.mover = .sequencer → t.snap = s.snap ∧ t.errinfo = s.errinfo ∧ t.status.drop = s.status.drop ∧
      t.status.err = s.status.err ∧ t.status.lastop = s.status.lastop)

/-! ### Whole-machine rules -/

/-- The block never stops: every step from every state answers a next state (60_exceptions.md R277, R295;
assumption 11). -/
def Obligations.StepNeverStops : Prop :=
  ∀ s : State, ∃ t : State, step s = .next t

/-- The reset state meets the invariant. -/
def Obligations.ResetMeetsInvariant : Prop := Inv State.reset

/-- Every step keeps the invariant, from every state that meets it. -/
def Obligations.StepKeepsInvariant : Prop :=
  ∀ s t : State, Inv s → step s = .next t → Inv t

/-- BUSY=1 exactly when seq ≠ IDLE (10_state.md R34): at reset, and kept by every step. -/
def Obligations.BusyExactlyWhileRunning : Prop :=
  (State.reset.status.busy = true ↔ State.reset.seq ≠ .idle) ∧
  (∀ s t : State, (s.status.busy = true ↔ s.seq ≠ .idle) → step s = .next t →
    (t.status.busy = true ↔ t.seq ≠ .idle))

/-- The empty trace of the reset state follows the bus protocol (the empty start is the model's choice,
assumption 12). -/
def Obligations.ResetTraceFollowsProtocol : Prop := TraceFollowsProtocol State.reset

/-- Every step keeps the bus protocol: the source's P1 (write order), P2 (one bulk read), one outstanding request, each
request only after the OK of the one before (40_sequencer.md R189 (a), 41_acquisition.md R217 (a), 20_memory.md R101). -/
def Obligations.StepKeepsBusProtocol : Prop :=
  ∀ s t : State, Inv s → TraceFollowsProtocol s → step s = .next t → TraceFollowsProtocol t

/-- Which rules write each register (10_state.md R57). -/
def Obligations.WritersOfEachRegister : Prop :=
  ∀ s t : State, step s = .next t →
    (t.status ≠ s.status → Resets s ∨ (∃ v, HostWrites s 0x04 v) ∨ (∃ w, HostWrites s 0x00 w) ∨
      ConsumesOk s .cfg3 ∨ ConsumesOk s .rid ∨ ConsumesOk s .smp ∨ CompletesDecode s ∨ FailsCommand s) ∧
    (t.cfg ≠ s.cfg → Resets s ∨ ∃ v, HostWrites s 0x08 v) ∧
    (t.id ≠ s.id → Resets s ∨ ConsumesOk s .rid) ∧
    (t.sx ≠ s.sx ∨ t.sy ≠ s.sy ∨ t.sz ≠ s.sz ∨ t.rawx ≠ s.rawx ∨ t.rawy ≠ s.rawy ∨ t.rawz ≠ s.rawz →
      Resets s ∨ ConsumesOk s .smp) ∧
    (t.ctrl1Img ≠ s.ctrl1Img → Resets s ∨ Accepts s .configure ∨ ConsumesOk s .cfg2 ∨ ConsumesFail s .cfg2 ∨
      ConsumesFail s .cfg3 ∨ ConsumesOk s .cfg3) ∧
    (t.dec ≠ s.dec → Resets s ∨ CompletesDecode s) ∧
    (t.errinfo ≠ s.errinfo → Resets s ∨ (∃ i, Accepts s i) ∨ FailsCommand s) ∧
    (t.latch ≠ s.latch → Resets s ∨ ConsumesOk s .cfg3)

/-- Operand snapshot: snap is written only by an acceptance (or reset), and no Sequencer step of any command reads CFG:
with another CFG it does the same, and leaves that CFG alone (40_sequencer.md R171). -/
def Obligations.RunningCommandIgnoresCfg : Prop :=
  (∀ s t : State, step s = .next t → t.snap ≠ s.snap → Resets s ∨ ∃ i, Accepts s i) ∧
  (∀ (i : Instr) (s t : State) (c : Cfg), s.mover = .sequencer → exec i s = .next t →
    exec i { s with cfg := c } = .next { t with cfg := c })

/-- Results are committed in one step or not at all: outside reset a result register changes only in the step in which
BUSY goes from 1 to 0 with DONE set (20_memory.md R102; 60_exceptions.md R276; 92_eei_decisions.md D21). -/
def Obligations.ResultsChangeOnlyAtCompletion : Prop :=
  ∀ s t : State, Inv s → step s = .next t → ¬Resets s →
    (t.id ≠ s.id ∨ t.sx ≠ s.sx ∨ t.sy ≠ s.sy ∨ t.sz ≠ s.sz ∨ t.rawx ≠ s.rawx ∨ t.rawy ≠ s.rawy ∨
      t.rawz ≠ s.rawz ∨ t.dec ≠ s.dec ∨ t.latch ≠ s.latch) →
    s.status.busy = true ∧ t.status.busy = false ∧ t.status.done = true ∧ t.status.err = false ∧ t.seq = .idle

/-- Progress: a running command has at most nine Sequencer and Transport steps left, each such step that can be taken
brings it nearer its end, and no other step but reset and an acceptance moves it away
(70_reset_and_hazards.md R345; 20_memory.md R91). -/
def Obligations.CommandsMakeProgress : Prop :=
  ∀ s t : State, Inv s → step s = .next t →
    stepsLeft s ≤ 9 ∧
    (stepsLeft s = 0 ↔ s.status.busy = false) ∧
    (s.status.busy = true → ¬Resets s → stepsLeft t ≤ stepsLeft s) ∧
    (s.status.busy = true → s.turns.head? = some .sequencer → (∀ req, s.pend ≠ .issued req) →
      stepsLeft t < stepsLeft s) ∧
    (∀ req resp, s.pend = .issued req → respFits req resp = true → s.turns.head? = some (.transport resp) →
      stepsLeft t < stepsLeft s)

/-! ### Whole commands, under a Transport that answers OK -/

/-- CONFIGURE from the write of its word to DONE: ten steps, three writes in P1's order, and nothing else changed
(40_sequencer.md R175, R189 (a); 70_reset_and_hazards.md R345). -/
def Obligations.ConfigureRunsToDone : Prop :=
  ∀ (s : State) (more : List HostOp) (rest : List Turn),
    s.status.busy = false → s.seq = .idle → s.pend = .none →
    s.prog = .write .w32 0x00 0x00000001 :: more →
    s.turns = [.host, .sequencer, .transport (.ok []), .sequencer, .sequencer, .transport (.ok []), .sequencer,
      .sequencer, .transport (.ok []), .sequencer] ++ rest →
    let code : Byte := s.params.odrCode[s.cfg.odr]
    let b2 : Byte := encCtrl1 s.cfg.res s.cfg.gsel
    Host.Core.run Sys2Proof.core 10 s = .next
      { s with
        prog     := more
        turns    := rest
        mover    := .sequencer
        status   :=
          { s.status with busy := false, done := true, err := false, active := true, lastop := 0x01 }
        errinfo  := ⟨false, 0, 0, 0, 0, 0⟩
        snap     := ⟨s.cfg.odr, s.cfg.res, s.cfg.gsel, 0⟩
        ctrl1Img := ⟨b2 ||| 0x80, true⟩
        latch    := ⟨s.cfg.odr, s.cfg.res, s.cfg.gsel, true⟩
        trace    := s.trace ++
          [.req (.wr s.params.aDataRate code), .resp (.ok []), .req (.wr s.params.aCtrl1 b2), .resp (.ok []),
           .req (.wr s.params.aCtrl1 (b2 ||| 0x80)), .resp (.ok [])] }

/-- SAMPLE from the write of its word to DONE: four steps, one RDSEQ, and nothing else changed
(41_acquisition.md R210, R217 (a); 70_reset_and_hazards.md R345). -/
def Obligations.SampleRunsToDone : Prop :=
  ∀ (s : State) (b0 b1 b2 b3 b4 b5 : Byte) (more : List HostOp) (rest : List Turn),
    s.status.busy = false → s.seq = .idle → s.pend = .none →
    s.prog = .write .w32 0x00 0x00000003 :: more →
    s.turns = [.host, .sequencer, .transport (.ok [b0, b1, b2, b3, b4, b5]), .sequencer] ++ rest →
    let d : Word := s.params.divisor s.latch.lgsel s.latch.lres
    Host.Core.run Sys2Proof.core 4 s = .next
      { s with
        prog    := more
        turns   := rest
        mover   := .sequencer
        status  :=
          { s.status with busy := false, done := true, err := false, svalid := true, lastop := 0x03 }
        errinfo := ⟨false, 0, 0, 0, 0, 0⟩
        snap    := ⟨s.cfg.odr, s.cfg.res, s.cfg.gsel, 0⟩
        sx      := conv (b1 ++ b0) d
        sy      := conv (b3 ++ b2) d
        sz      := conv (b5 ++ b4) d
        rawx    := BitVec.signExtend 32 (b1 ++ b0)
        rawy    := BitVec.signExtend 32 (b3 ++ b2)
        rawz    := BitVec.signExtend 32 (b5 ++ b4)
        trace   := s.trace ++ [.req (.rdseq s.params.aXoutL 6), .resp (.ok [b0, b1, b2, b3, b4, b5])] }

/-- READ_ID in four steps and DECODE in two, from the write of the word to DONE (40_sequencer.md R193;
42_decoder.md R240; 70_reset_and_hazards.md R345). -/
def Obligations.ReadIdAndDecodeRunToDone : Prop :=
  (∀ (s : State) (b : Byte) (more : List HostOp) (rest : List Turn),
    s.status.busy = false → s.seq = .idle → s.pend = .none →
    s.prog = .write .w32 0x00 0x00000002 :: more →
    s.turns = [.host, .sequencer, .transport (.ok [b]), .sequencer] ++ rest →
    Host.Core.run Sys2Proof.core 4 s = .next
      { s with
        prog    := more
        turns   := rest
        mover   := .sequencer
        status  :=
          { s.status with busy := false, done := true, err := false, idvalid := true, lastop := 0x02 }
        errinfo := ⟨false, 0, 0, 0, 0, 0⟩
        snap    := ⟨s.cfg.odr, s.cfg.res, s.cfg.gsel, 0⟩
        id      := b.setWidth 32
        trace   := s.trace ++ [.req (.rd s.params.aWhoAmI), .resp (.ok [b])] }) ∧
  (∀ (s : State) (imm : Byte) (more : List HostOp) (rest : List Turn),
    s.status.busy = false → s.seq = .idle →
    s.prog = .write .w32 0x00 (0#16 ++ imm ++ 0x04#8) :: more →
    s.turns = [.host, .sequencer] ++ rest →
    Host.Core.run Sys2Proof.core 2 s = .next
      { s with
        prog    := more
        turns   := rest
        mover   := .sequencer
        status  := { s.status with busy := false, done := true, err := false, lastop := 0x04 }
        errinfo := ⟨false, 0, 0, 0, 0, 0⟩
        snap    := ⟨s.cfg.odr, s.cfg.res, s.cfg.gsel, imm⟩
        dec     := decodeCtrl1 imm })
end

