-- ==== Sys2Proof/Laws/State.lean ====
section
/-! SUPPORT. One lemma for each field of State after each named operation, true by rfl, so that no later proof unfolds
a record update. -/

namespace Sys2Proof.Machine

/-! ### droppedCommand -/

@[simp] theorem droppedCommand_status (s : State) : (droppedCommand s).status = { s.status with drop := true } := rfl
@[simp] theorem droppedCommand_cfg (s : State) : (droppedCommand s).cfg = s.cfg := rfl
@[simp] theorem droppedCommand_id (s : State) : (droppedCommand s).id = s.id := rfl
@[simp] theorem droppedCommand_sx (s : State) : (droppedCommand s).sx = s.sx := rfl
@[simp] theorem droppedCommand_sy (s : State) : (droppedCommand s).sy = s.sy := rfl
@[simp] theorem droppedCommand_sz (s : State) : (droppedCommand s).sz = s.sz := rfl
@[simp] theorem droppedCommand_rawx (s : State) : (droppedCommand s).rawx = s.rawx := rfl
@[simp] theorem droppedCommand_rawy (s : State) : (droppedCommand s).rawy = s.rawy := rfl
@[simp] theorem droppedCommand_rawz (s : State) : (droppedCommand s).rawz = s.rawz := rfl
@[simp] theorem droppedCommand_ctrl1Img (s : State) : (droppedCommand s).ctrl1Img = s.ctrl1Img := rfl
@[simp] theorem droppedCommand_dec (s : State) : (droppedCommand s).dec = s.dec := rfl
@[simp] theorem droppedCommand_errinfo (s : State) : (droppedCommand s).errinfo = s.errinfo := rfl
@[simp] theorem droppedCommand_latch (s : State) : (droppedCommand s).latch = s.latch := rfl
@[simp] theorem droppedCommand_seq (s : State) : (droppedCommand s).seq = s.seq := rfl
@[simp] theorem droppedCommand_snap (s : State) : (droppedCommand s).snap = s.snap := rfl
@[simp] theorem droppedCommand_pend (s : State) : (droppedCommand s).pend = s.pend := rfl
@[simp] theorem droppedCommand_trace (s : State) : (droppedCommand s).trace = s.trace := rfl
@[simp] theorem droppedCommand_prog (s : State) : (droppedCommand s).prog = s.prog := rfl
@[simp] theorem droppedCommand_turns (s : State) : (droppedCommand s).turns = s.turns := rfl
@[simp] theorem droppedCommand_rdata (s : State) : (droppedCommand s).rdata = s.rdata := rfl
@[simp] theorem droppedCommand_mover (s : State) : (droppedCommand s).mover = s.mover := rfl
@[simp] theorem droppedCommand_params (s : State) : (droppedCommand s).params = s.params := rfl

/-! ### illegalCommand -/

@[simp] theorem illegalCommand_status (s : State) : (illegalCommand s).status = { s.status with ill := true } := rfl
@[simp] theorem illegalCommand_cfg (s : State) : (illegalCommand s).cfg = s.cfg := rfl
@[simp] theorem illegalCommand_id (s : State) : (illegalCommand s).id = s.id := rfl
@[simp] theorem illegalCommand_sx (s : State) : (illegalCommand s).sx = s.sx := rfl
@[simp] theorem illegalCommand_sy (s : State) : (illegalCommand s).sy = s.sy := rfl
@[simp] theorem illegalCommand_sz (s : State) : (illegalCommand s).sz = s.sz := rfl
@[simp] theorem illegalCommand_rawx (s : State) : (illegalCommand s).rawx = s.rawx := rfl
@[simp] theorem illegalCommand_rawy (s : State) : (illegalCommand s).rawy = s.rawy := rfl
@[simp] theorem illegalCommand_rawz (s : State) : (illegalCommand s).rawz = s.rawz := rfl
@[simp] theorem illegalCommand_ctrl1Img (s : State) : (illegalCommand s).ctrl1Img = s.ctrl1Img := rfl
@[simp] theorem illegalCommand_dec (s : State) : (illegalCommand s).dec = s.dec := rfl
@[simp] theorem illegalCommand_errinfo (s : State) : (illegalCommand s).errinfo = s.errinfo := rfl
@[simp] theorem illegalCommand_latch (s : State) : (illegalCommand s).latch = s.latch := rfl
@[simp] theorem illegalCommand_seq (s : State) : (illegalCommand s).seq = s.seq := rfl
@[simp] theorem illegalCommand_snap (s : State) : (illegalCommand s).snap = s.snap := rfl
@[simp] theorem illegalCommand_pend (s : State) : (illegalCommand s).pend = s.pend := rfl
@[simp] theorem illegalCommand_trace (s : State) : (illegalCommand s).trace = s.trace := rfl
@[simp] theorem illegalCommand_prog (s : State) : (illegalCommand s).prog = s.prog := rfl
@[simp] theorem illegalCommand_turns (s : State) : (illegalCommand s).turns = s.turns := rfl
@[simp] theorem illegalCommand_rdata (s : State) : (illegalCommand s).rdata = s.rdata := rfl
@[simp] theorem illegalCommand_mover (s : State) : (illegalCommand s).mover = s.mover := rfl
@[simp] theorem illegalCommand_params (s : State) : (illegalCommand s).params = s.params := rfl

/-! ### accept -/

@[simp] theorem accept_status (i : Instr) (s : State) : (accept i s).status = s.status.accepted i.opcode := rfl
@[simp] theorem accept_cfg (i : Instr) (s : State) : (accept i s).cfg = s.cfg := rfl
@[simp] theorem accept_id (i : Instr) (s : State) : (accept i s).id = s.id := rfl
@[simp] theorem accept_sx (i : Instr) (s : State) : (accept i s).sx = s.sx := rfl
@[simp] theorem accept_sy (i : Instr) (s : State) : (accept i s).sy = s.sy := rfl
@[simp] theorem accept_sz (i : Instr) (s : State) : (accept i s).sz = s.sz := rfl
@[simp] theorem accept_rawx (i : Instr) (s : State) : (accept i s).rawx = s.rawx := rfl
@[simp] theorem accept_rawy (i : Instr) (s : State) : (accept i s).rawy = s.rawy := rfl
@[simp] theorem accept_rawz (i : Instr) (s : State) : (accept i s).rawz = s.rawz := rfl
@[simp] theorem accept_ctrl1Img (i : Instr) (s : State) : (accept i s).ctrl1Img = s.ctrl1Img := rfl
@[simp] theorem accept_dec (i : Instr) (s : State) : (accept i s).dec = s.dec := rfl
@[simp] theorem accept_errinfo (i : Instr) (s : State) : (accept i s).errinfo = .zero := rfl
@[simp] theorem accept_latch (i : Instr) (s : State) : (accept i s).latch = s.latch := rfl
@[simp] theorem accept_seq (i : Instr) (s : State) : (accept i s).seq = s.seq := rfl
@[simp] theorem accept_snap (i : Instr) (s : State) :
    (accept i s).snap = ⟨s.cfg.odr, s.cfg.res, s.cfg.gsel, i.imm⟩ := rfl
@[simp] theorem accept_pend (i : Instr) (s : State) : (accept i s).pend = s.pend := rfl
@[simp] theorem accept_trace (i : Instr) (s : State) : (accept i s).trace = s.trace := rfl
@[simp] theorem accept_prog (i : Instr) (s : State) : (accept i s).prog = s.prog := rfl
@[simp] theorem accept_turns (i : Instr) (s : State) : (accept i s).turns = s.turns := rfl
@[simp] theorem accept_rdata (i : Instr) (s : State) : (accept i s).rdata = s.rdata := rfl
@[simp] theorem accept_mover (i : Instr) (s : State) : (accept i s).mover = s.mover := rfl
@[simp] theorem accept_params (i : Instr) (s : State) : (accept i s).params = s.params := rfl

/-! ### issue -/

@[simp] theorem issue_status (r : BusReq) (s : State) : (issue r s).status = s.status := rfl
@[simp] theorem issue_cfg (r : BusReq) (s : State) : (issue r s).cfg = s.cfg := rfl
@[simp] theorem issue_id (r : BusReq) (s : State) : (issue r s).id = s.id := rfl
@[simp] theorem issue_sx (r : BusReq) (s : State) : (issue r s).sx = s.sx := rfl
@[simp] theorem issue_sy (r : BusReq) (s : State) : (issue r s).sy = s.sy := rfl
@[simp] theorem issue_sz (r : BusReq) (s : State) : (issue r s).sz = s.sz := rfl
@[simp] theorem issue_rawx (r : BusReq) (s : State) : (issue r s).rawx = s.rawx := rfl
@[simp] theorem issue_rawy (r : BusReq) (s : State) : (issue r s).rawy = s.rawy := rfl
@[simp] theorem issue_rawz (r : BusReq) (s : State) : (issue r s).rawz = s.rawz := rfl
@[simp] theorem issue_ctrl1Img (r : BusReq) (s : State) : (issue r s).ctrl1Img = s.ctrl1Img := rfl
@[simp] theorem issue_dec (r : BusReq) (s : State) : (issue r s).dec = s.dec := rfl
@[simp] theorem issue_errinfo (r : BusReq) (s : State) : (issue r s).errinfo = s.errinfo := rfl
@[simp] theorem issue_latch (r : BusReq) (s : State) : (issue r s).latch = s.latch := rfl
@[simp] theorem issue_seq (r : BusReq) (s : State) : (issue r s).seq = s.seq := rfl
@[simp] theorem issue_snap (r : BusReq) (s : State) : (issue r s).snap = s.snap := rfl
@[simp] theorem issue_pend (r : BusReq) (s : State) : (issue r s).pend = .issued r := rfl
@[simp] theorem issue_trace (r : BusReq) (s : State) : (issue r s).trace = s.trace ++ [.req r] := rfl
@[simp] theorem issue_prog (r : BusReq) (s : State) : (issue r s).prog = s.prog := rfl
@[simp] theorem issue_turns (r : BusReq) (s : State) : (issue r s).turns = s.turns := rfl
@[simp] theorem issue_rdata (r : BusReq) (s : State) : (issue r s).rdata = s.rdata := rfl
@[simp] theorem issue_mover (r : BusReq) (s : State) : (issue r s).mover = s.mover := rfl
@[simp] theorem issue_params (r : BusReq) (s : State) : (issue r s).params = s.params := rfl

/-! ### consume -/

@[simp] theorem consume_status (s : State) : (consume s).status = s.status := rfl
@[simp] theorem consume_cfg (s : State) : (consume s).cfg = s.cfg := rfl
@[simp] theorem consume_id (s : State) : (consume s).id = s.id := rfl
@[simp] theorem consume_sx (s : State) : (consume s).sx = s.sx := rfl
@[simp] theorem consume_sy (s : State) : (consume s).sy = s.sy := rfl
@[simp] theorem consume_sz (s : State) : (consume s).sz = s.sz := rfl
@[simp] theorem consume_rawx (s : State) : (consume s).rawx = s.rawx := rfl
@[simp] theorem consume_rawy (s : State) : (consume s).rawy = s.rawy := rfl
@[simp] theorem consume_rawz (s : State) : (consume s).rawz = s.rawz := rfl
@[simp] theorem consume_ctrl1Img (s : State) : (consume s).ctrl1Img = s.ctrl1Img := rfl
@[simp] theorem consume_dec (s : State) : (consume s).dec = s.dec := rfl
@[simp] theorem consume_errinfo (s : State) : (consume s).errinfo = s.errinfo := rfl
@[simp] theorem consume_latch (s : State) : (consume s).latch = s.latch := rfl
@[simp] theorem consume_seq (s : State) : (consume s).seq = s.seq := rfl
@[simp] theorem consume_snap (s : State) : (consume s).snap = s.snap := rfl
@[simp] theorem consume_pend (s : State) : (consume s).pend = .none := rfl
@[simp] theorem consume_trace (s : State) : (consume s).trace = s.trace := rfl
@[simp] theorem consume_prog (s : State) : (consume s).prog = s.prog := rfl
@[simp] theorem consume_turns (s : State) : (consume s).turns = s.turns := rfl
@[simp] theorem consume_rdata (s : State) : (consume s).rdata = s.rdata := rfl
@[simp] theorem consume_mover (s : State) : (consume s).mover = s.mover := rfl
@[simp] theorem consume_params (s : State) : (consume s).params = s.params := rfl

/-! ### transportFailure -/

@[simp] theorem transportFailure_status (op : BitVec 3) (n : BitVec 2) (p : Phase) (c a : Byte) (s : State) :
    (transportFailure op n p c a s).status = s.status.failed := rfl
@[simp] theorem transportFailure_cfg (op : BitVec 3) (n : BitVec 2) (p : Phase) (c a : Byte) (s : State) :
    (transportFailure op n p c a s).cfg = s.cfg := rfl
@[simp] theorem transportFailure_id (op : BitVec 3) (n : BitVec 2) (p : Phase) (c a : Byte) (s : State) :
    (transportFailure op n p c a s).id = s.id := rfl
@[simp] theorem transportFailure_sx (op : BitVec 3) (n : BitVec 2) (p : Phase) (c a : Byte) (s : State) :
    (transportFailure op n p c a s).sx = s.sx := rfl
@[simp] theorem transportFailure_sy (op : BitVec 3) (n : BitVec 2) (p : Phase) (c a : Byte) (s : State) :
    (transportFailure op n p c a s).sy = s.sy := rfl
@[simp] theorem transportFailure_sz (op : BitVec 3) (n : BitVec 2) (p : Phase) (c a : Byte) (s : State) :
    (transportFailure op n p c a s).sz = s.sz := rfl
@[simp] theorem transportFailure_rawx (op : BitVec 3) (n : BitVec 2) (p : Phase) (c a : Byte) (s : State) :
    (transportFailure op n p c a s).rawx = s.rawx := rfl
@[simp] theorem transportFailure_rawy (op : BitVec 3) (n : BitVec 2) (p : Phase) (c a : Byte) (s : State) :
    (transportFailure op n p c a s).rawy = s.rawy := rfl
@[simp] theorem transportFailure_rawz (op : BitVec 3) (n : BitVec 2) (p : Phase) (c a : Byte) (s : State) :
    (transportFailure op n p c a s).rawz = s.rawz := rfl
@[simp] theorem transportFailure_ctrl1Img (op : BitVec 3) (n : BitVec 2) (p : Phase) (c a : Byte) (s : State) :
    (transportFailure op n p c a s).ctrl1Img = s.ctrl1Img := rfl
@[simp] theorem transportFailure_dec (op : BitVec 3) (n : BitVec 2) (p : Phase) (c a : Byte) (s : State) :
    (transportFailure op n p c a s).dec = s.dec := rfl
@[simp] theorem transportFailure_errinfo (op : BitVec 3) (n : BitVec 2) (p : Phase) (c a : Byte) (s : State) :
    (transportFailure op n p c a s).errinfo = ⟨true, a, phaseCode p, n, op, c⟩ := rfl
@[simp] theorem transportFailure_latch (op : BitVec 3) (n : BitVec 2) (p : Phase) (c a : Byte) (s : State) :
    (transportFailure op n p c a s).latch = s.latch := rfl
@[simp] theorem transportFailure_seq (op : BitVec 3) (n : BitVec 2) (p : Phase) (c a : Byte) (s : State) :
    (transportFailure op n p c a s).seq = .idle := rfl
@[simp] theorem transportFailure_snap (op : BitVec 3) (n : BitVec 2) (p : Phase) (c a : Byte) (s : State) :
    (transportFailure op n p c a s).snap = s.snap := rfl
@[simp] theorem transportFailure_pend (op : BitVec 3) (n : BitVec 2) (p : Phase) (c a : Byte) (s : State) :
    (transportFailure op n p c a s).pend = s.pend := rfl
@[simp] theorem transportFailure_trace (op : BitVec 3) (n : BitVec 2) (p : Phase) (c a : Byte) (s : State) :
    (transportFailure op n p c a s).trace = s.trace := rfl
@[simp] theorem transportFailure_prog (op : BitVec 3) (n : BitVec 2) (p : Phase) (c a : Byte) (s : State) :
    (transportFailure op n p c a s).prog = s.prog := rfl
@[simp] theorem transportFailure_turns (op : BitVec 3) (n : BitVec 2) (p : Phase) (c a : Byte) (s : State) :
    (transportFailure op n p c a s).turns = s.turns := rfl
@[simp] theorem transportFailure_rdata (op : BitVec 3) (n : BitVec 2) (p : Phase) (c a : Byte) (s : State) :
    (transportFailure op n p c a s).rdata = s.rdata := rfl
@[simp] theorem transportFailure_mover (op : BitVec 3) (n : BitVec 2) (p : Phase) (c a : Byte) (s : State) :
    (transportFailure op n p c a s).mover = s.mover := rfl
@[simp] theorem transportFailure_params (op : BitVec 3) (n : BitVec 2) (p : Phase) (c a : Byte) (s : State) :
    (transportFailure op n p c a s).params = s.params := rfl

/-! ### statusWrite -/

@[simp] theorem statusWrite_status (v : Word) (s : State) : (statusWrite v s).status = s.status.written v := rfl
@[simp] theorem statusWrite_cfg (v : Word) (s : State) : (statusWrite v s).cfg = s.cfg := rfl
@[simp] theorem statusWrite_id (v : Word) (s : State) : (statusWrite v s).id = s.id := rfl
@[simp] theorem statusWrite_sx (v : Word) (s : State) : (statusWrite v s).sx = s.sx := rfl
@[simp] theorem statusWrite_sy (v : Word) (s : State) : (statusWrite v s).sy = s.sy := rfl
@[simp] theorem statusWrite_sz (v : Word) (s : State) : (statusWrite v s).sz = s.sz := rfl
@[simp] theorem statusWrite_rawx (v : Word) (s : State) : (statusWrite v s).rawx = s.rawx := rfl
@[simp] theorem statusWrite_rawy (v : Word) (s : State) : (statusWrite v s).rawy = s.rawy := rfl
@[simp] theorem statusWrite_rawz (v : Word) (s : State) : (statusWrite v s).rawz = s.rawz := rfl
@[simp] theorem statusWrite_ctrl1Img (v : Word) (s : State) : (statusWrite v s).ctrl1Img = s.ctrl1Img := rfl
@[simp] theorem statusWrite_dec (v : Word) (s : State) : (statusWrite v s).dec = s.dec := rfl
@[simp] theorem statusWrite_errinfo (v : Word) (s : State) : (statusWrite v s).errinfo = s.errinfo := rfl
@[simp] theorem statusWrite_latch (v : Word) (s : State) : (statusWrite v s).latch = s.latch := rfl
@[simp] theorem statusWrite_seq (v : Word) (s : State) : (statusWrite v s).seq = s.seq := rfl
@[simp] theorem statusWrite_snap (v : Word) (s : State) : (statusWrite v s).snap = s.snap := rfl
@[simp] theorem statusWrite_pend (v : Word) (s : State) : (statusWrite v s).pend = s.pend := rfl
@[simp] theorem statusWrite_trace (v : Word) (s : State) : (statusWrite v s).trace = s.trace := rfl
@[simp] theorem statusWrite_prog (v : Word) (s : State) : (statusWrite v s).prog = s.prog := rfl
@[simp] theorem statusWrite_turns (v : Word) (s : State) : (statusWrite v s).turns = s.turns := rfl
@[simp] theorem statusWrite_rdata (v : Word) (s : State) : (statusWrite v s).rdata = s.rdata := rfl
@[simp] theorem statusWrite_mover (v : Word) (s : State) : (statusWrite v s).mover = s.mover := rfl
@[simp] theorem statusWrite_params (v : Word) (s : State) : (statusWrite v s).params = s.params := rfl

/-! ### cfgWrite -/

@[simp] theorem cfgWrite_status (v : Word) (s : State) : (cfgWrite v s).status = s.status := rfl
@[simp] theorem cfgWrite_cfg (v : Word) (s : State) : (cfgWrite v s).cfg = s.cfg.written v := rfl
@[simp] theorem cfgWrite_id (v : Word) (s : State) : (cfgWrite v s).id = s.id := rfl
@[simp] theorem cfgWrite_sx (v : Word) (s : State) : (cfgWrite v s).sx = s.sx := rfl
@[simp] theorem cfgWrite_sy (v : Word) (s : State) : (cfgWrite v s).sy = s.sy := rfl
@[simp] theorem cfgWrite_sz (v : Word) (s : State) : (cfgWrite v s).sz = s.sz := rfl
@[simp] theorem cfgWrite_rawx (v : Word) (s : State) : (cfgWrite v s).rawx = s.rawx := rfl
@[simp] theorem cfgWrite_rawy (v : Word) (s : State) : (cfgWrite v s).rawy = s.rawy := rfl
@[simp] theorem cfgWrite_rawz (v : Word) (s : State) : (cfgWrite v s).rawz = s.rawz := rfl
@[simp] theorem cfgWrite_ctrl1Img (v : Word) (s : State) : (cfgWrite v s).ctrl1Img = s.ctrl1Img := rfl
@[simp] theorem cfgWrite_dec (v : Word) (s : State) : (cfgWrite v s).dec = s.dec := rfl
@[simp] theorem cfgWrite_errinfo (v : Word) (s : State) : (cfgWrite v s).errinfo = s.errinfo := rfl
@[simp] theorem cfgWrite_latch (v : Word) (s : State) : (cfgWrite v s).latch = s.latch := rfl
@[simp] theorem cfgWrite_seq (v : Word) (s : State) : (cfgWrite v s).seq = s.seq := rfl
@[simp] theorem cfgWrite_snap (v : Word) (s : State) : (cfgWrite v s).snap = s.snap := rfl
@[simp] theorem cfgWrite_pend (v : Word) (s : State) : (cfgWrite v s).pend = s.pend := rfl
@[simp] theorem cfgWrite_trace (v : Word) (s : State) : (cfgWrite v s).trace = s.trace := rfl
@[simp] theorem cfgWrite_prog (v : Word) (s : State) : (cfgWrite v s).prog = s.prog := rfl
@[simp] theorem cfgWrite_turns (v : Word) (s : State) : (cfgWrite v s).turns = s.turns := rfl
@[simp] theorem cfgWrite_rdata (v : Word) (s : State) : (cfgWrite v s).rdata = s.rdata := rfl
@[simp] theorem cfgWrite_mover (v : Word) (s : State) : (cfgWrite v s).mover = s.mover := rfl
@[simp] theorem cfgWrite_params (v : Word) (s : State) : (cfgWrite v s).params = s.params := rfl

/-! ### configureEffects -/

@[simp] theorem configureEffects_status (s : State) :
    (configureEffects s).status = { s.status with active := false } := rfl
@[simp] theorem configureEffects_cfg (s : State) : (configureEffects s).cfg = s.cfg := rfl
@[simp] theorem configureEffects_id (s : State) : (configureEffects s).id = s.id := rfl
@[simp] theorem configureEffects_sx (s : State) : (configureEffects s).sx = s.sx := rfl
@[simp] theorem configureEffects_sy (s : State) : (configureEffects s).sy = s.sy := rfl
@[simp] theorem configureEffects_sz (s : State) : (configureEffects s).sz = s.sz := rfl
@[simp] theorem configureEffects_rawx (s : State) : (configureEffects s).rawx = s.rawx := rfl
@[simp] theorem configureEffects_rawy (s : State) : (configureEffects s).rawy = s.rawy := rfl
@[simp] theorem configureEffects_rawz (s : State) : (configureEffects s).rawz = s.rawz := rfl
@[simp] theorem configureEffects_ctrl1Img (s : State) :
    (configureEffects s).ctrl1Img = { s.ctrl1Img with imgv := false } := rfl
@[simp] theorem configureEffects_dec (s : State) : (configureEffects s).dec = s.dec := rfl
@[simp] theorem configureEffects_errinfo (s : State) : (configureEffects s).errinfo = s.errinfo := rfl
@[simp] theorem configureEffects_latch (s : State) : (configureEffects s).latch = s.latch := rfl
@[simp] theorem configureEffects_seq (s : State) : (configureEffects s).seq = .cfg1 := rfl
@[simp] theorem configureEffects_snap (s : State) : (configureEffects s).snap = s.snap := rfl
@[simp] theorem configureEffects_pend (s : State) : (configureEffects s).pend = s.pend := rfl
@[simp] theorem configureEffects_trace (s : State) : (configureEffects s).trace = s.trace := rfl
@[simp] theorem configureEffects_prog (s : State) : (configureEffects s).prog = s.prog := rfl
@[simp] theorem configureEffects_turns (s : State) : (configureEffects s).turns = s.turns := rfl
@[simp] theorem configureEffects_rdata (s : State) : (configureEffects s).rdata = s.rdata := rfl
@[simp] theorem configureEffects_mover (s : State) : (configureEffects s).mover = s.mover := rfl
@[simp] theorem configureEffects_params (s : State) : (configureEffects s).params = s.params := rfl

/-! ### cfg2Done -/

@[simp] theorem cfg2Done_status (s : State) : (cfg2Done s).status = s.status := rfl
@[simp] theorem cfg2Done_cfg (s : State) : (cfg2Done s).cfg = s.cfg := rfl
@[simp] theorem cfg2Done_id (s : State) : (cfg2Done s).id = s.id := rfl
@[simp] theorem cfg2Done_sx (s : State) : (cfg2Done s).sx = s.sx := rfl
@[simp] theorem cfg2Done_sy (s : State) : (cfg2Done s).sy = s.sy := rfl
@[simp] theorem cfg2Done_sz (s : State) : (cfg2Done s).sz = s.sz := rfl
@[simp] theorem cfg2Done_rawx (s : State) : (cfg2Done s).rawx = s.rawx := rfl
@[simp] theorem cfg2Done_rawy (s : State) : (cfg2Done s).rawy = s.rawy := rfl
@[simp] theorem cfg2Done_rawz (s : State) : (cfg2Done s).rawz = s.rawz := rfl
@[simp] theorem cfg2Done_ctrl1Img (s : State) : (cfg2Done s).ctrl1Img = ⟨s.snap.b2, true⟩ := rfl
@[simp] theorem cfg2Done_dec (s : State) : (cfg2Done s).dec = s.dec := rfl
@[simp] theorem cfg2Done_errinfo (s : State) : (cfg2Done s).errinfo = s.errinfo := rfl
@[simp] theorem cfg2Done_latch (s : State) : (cfg2Done s).latch = s.latch := rfl
@[simp] theorem cfg2Done_seq (s : State) : (cfg2Done s).seq = .cfg3 := rfl
@[simp] theorem cfg2Done_snap (s : State) : (cfg2Done s).snap = s.snap := rfl
@[simp] theorem cfg2Done_pend (s : State) : (cfg2Done s).pend = s.pend := rfl
@[simp] theorem cfg2Done_trace (s : State) : (cfg2Done s).trace = s.trace := rfl
@[simp] theorem cfg2Done_prog (s : State) : (cfg2Done s).prog = s.prog := rfl
@[simp] theorem cfg2Done_turns (s : State) : (cfg2Done s).turns = s.turns := rfl
@[simp] theorem cfg2Done_rdata (s : State) : (cfg2Done s).rdata = s.rdata := rfl
@[simp] theorem cfg2Done_mover (s : State) : (cfg2Done s).mover = s.mover := rfl
@[simp] theorem cfg2Done_params (s : State) : (cfg2Done s).params = s.params := rfl

/-! ### forgetImage -/

@[simp] theorem forgetImage_status (s : State) : (forgetImage s).status = s.status := rfl
@[simp] theorem forgetImage_cfg (s : State) : (forgetImage s).cfg = s.cfg := rfl
@[simp] theorem forgetImage_id (s : State) : (forgetImage s).id = s.id := rfl
@[simp] theorem forgetImage_sx (s : State) : (forgetImage s).sx = s.sx := rfl
@[simp] theorem forgetImage_sy (s : State) : (forgetImage s).sy = s.sy := rfl
@[simp] theorem forgetImage_sz (s : State) : (forgetImage s).sz = s.sz := rfl
@[simp] theorem forgetImage_rawx (s : State) : (forgetImage s).rawx = s.rawx := rfl
@[simp] theorem forgetImage_rawy (s : State) : (forgetImage s).rawy = s.rawy := rfl
@[simp] theorem forgetImage_rawz (s : State) : (forgetImage s).rawz = s.rawz := rfl
@[simp] theorem forgetImage_ctrl1Img (s : State) : (forgetImage s).ctrl1Img = { s.ctrl1Img with imgv := false } := rfl
@[simp] theorem forgetImage_dec (s : State) : (forgetImage s).dec = s.dec := rfl
@[simp] theorem forgetImage_errinfo (s : State) : (forgetImage s).errinfo = s.errinfo := rfl
@[simp] theorem forgetImage_latch (s : State) : (forgetImage s).latch = s.latch := rfl
@[simp] theorem forgetImage_seq (s : State) : (forgetImage s).seq = s.seq := rfl
@[simp] theorem forgetImage_snap (s : State) : (forgetImage s).snap = s.snap := rfl
@[simp] theorem forgetImage_pend (s : State) : (forgetImage s).pend = s.pend := rfl
@[simp] theorem forgetImage_trace (s : State) : (forgetImage s).trace = s.trace := rfl
@[simp] theorem forgetImage_prog (s : State) : (forgetImage s).prog = s.prog := rfl
@[simp] theorem forgetImage_turns (s : State) : (forgetImage s).turns = s.turns := rfl
@[simp] theorem forgetImage_rdata (s : State) : (forgetImage s).rdata = s.rdata := rfl
@[simp] theorem forgetImage_mover (s : State) : (forgetImage s).mover = s.mover := rfl
@[simp] theorem forgetImage_params (s : State) : (forgetImage s).params = s.params := rfl

/-! ### completeConfigure -/

@[simp] theorem completeConfigure_status (s : State) :
    (completeConfigure s).status = { s.status.completed with active := true } := rfl
@[simp] theorem completeConfigure_cfg (s : State) : (completeConfigure s).cfg = s.cfg := rfl
@[simp] theorem completeConfigure_id (s : State) : (completeConfigure s).id = s.id := rfl
@[simp] theorem completeConfigure_sx (s : State) : (completeConfigure s).sx = s.sx := rfl
@[simp] theorem completeConfigure_sy (s : State) : (completeConfigure s).sy = s.sy := rfl
@[simp] theorem completeConfigure_sz (s : State) : (completeConfigure s).sz = s.sz := rfl
@[simp] theorem completeConfigure_rawx (s : State) : (completeConfigure s).rawx = s.rawx := rfl
@[simp] theorem completeConfigure_rawy (s : State) : (completeConfigure s).rawy = s.rawy := rfl
@[simp] theorem completeConfigure_rawz (s : State) : (completeConfigure s).rawz = s.rawz := rfl
@[simp] theorem completeConfigure_ctrl1Img (s : State) : (completeConfigure s).ctrl1Img = ⟨s.snap.b3, true⟩ := rfl
@[simp] theorem completeConfigure_dec (s : State) : (completeConfigure s).dec = s.dec := rfl
@[simp] theorem completeConfigure_errinfo (s : State) : (completeConfigure s).errinfo = s.errinfo := rfl
@[simp] theorem completeConfigure_latch (s : State) :
    (completeConfigure s).latch = ⟨s.snap.odr, s.snap.res, s.snap.gsel, true⟩ := rfl
@[simp] theorem completeConfigure_seq (s : State) : (completeConfigure s).seq = .idle := rfl
@[simp] theorem completeConfigure_snap (s : State) : (completeConfigure s).snap = s.snap := rfl
@[simp] theorem completeConfigure_pend (s : State) : (completeConfigure s).pend = s.pend := rfl
@[simp] theorem completeConfigure_trace (s : State) : (completeConfigure s).trace = s.trace := rfl
@[simp] theorem completeConfigure_prog (s : State) : (completeConfigure s).prog = s.prog := rfl
@[simp] theorem completeConfigure_turns (s : State) : (completeConfigure s).turns = s.turns := rfl
@[simp] theorem completeConfigure_rdata (s : State) : (completeConfigure s).rdata = s.rdata := rfl
@[simp] theorem completeConfigure_mover (s : State) : (completeConfigure s).mover = s.mover := rfl
@[simp] theorem completeConfigure_params (s : State) : (completeConfigure s).params = s.params := rfl

/-! ### readIdEffects -/

@[simp] theorem readIdEffects_status (s : State) :
    (readIdEffects s).status = { s.status with idvalid := false } := rfl
@[simp] theorem readIdEffects_cfg (s : State) : (readIdEffects s).cfg = s.cfg := rfl
@[simp] theorem readIdEffects_id (s : State) : (readIdEffects s).id = s.id := rfl
@[simp] theorem readIdEffects_sx (s : State) : (readIdEffects s).sx = s.sx := rfl
@[simp] theorem readIdEffects_sy (s : State) : (readIdEffects s).sy = s.sy := rfl
@[simp] theorem readIdEffects_sz (s : State) : (readIdEffects s).sz = s.sz := rfl
@[simp] theorem readIdEffects_rawx (s : State) : (readIdEffects s).rawx = s.rawx := rfl
@[simp] theorem readIdEffects_rawy (s : State) : (readIdEffects s).rawy = s.rawy := rfl
@[simp] theorem readIdEffects_rawz (s : State) : (readIdEffects s).rawz = s.rawz := rfl
@[simp] theorem readIdEffects_ctrl1Img (s : State) : (readIdEffects s).ctrl1Img = s.ctrl1Img := rfl
@[simp] theorem readIdEffects_dec (s : State) : (readIdEffects s).dec = s.dec := rfl
@[simp] theorem readIdEffects_errinfo (s : State) : (readIdEffects s).errinfo = s.errinfo := rfl
@[simp] theorem readIdEffects_latch (s : State) : (readIdEffects s).latch = s.latch := rfl
@[simp] theorem readIdEffects_seq (s : State) : (readIdEffects s).seq = .rid := rfl
@[simp] theorem readIdEffects_snap (s : State) : (readIdEffects s).snap = s.snap := rfl
@[simp] theorem readIdEffects_pend (s : State) : (readIdEffects s).pend = s.pend := rfl
@[simp] theorem readIdEffects_trace (s : State) : (readIdEffects s).trace = s.trace := rfl
@[simp] theorem readIdEffects_prog (s : State) : (readIdEffects s).prog = s.prog := rfl
@[simp] theorem readIdEffects_turns (s : State) : (readIdEffects s).turns = s.turns := rfl
@[simp] theorem readIdEffects_rdata (s : State) : (readIdEffects s).rdata = s.rdata := rfl
@[simp] theorem readIdEffects_mover (s : State) : (readIdEffects s).mover = s.mover := rfl
@[simp] theorem readIdEffects_params (s : State) : (readIdEffects s).params = s.params := rfl

/-! ### completeReadId -/

@[simp] theorem completeReadId_status (b : Byte) (s : State) :
    (completeReadId b s).status = { s.status.completed with idvalid := true } := rfl
@[simp] theorem completeReadId_cfg (b : Byte) (s : State) : (completeReadId b s).cfg = s.cfg := rfl
@[simp] theorem completeReadId_id (b : Byte) (s : State) : (completeReadId b s).id = zext32 b := rfl
@[simp] theorem completeReadId_sx (b : Byte) (s : State) : (completeReadId b s).sx = s.sx := rfl
@[simp] theorem completeReadId_sy (b : Byte) (s : State) : (completeReadId b s).sy = s.sy := rfl
@[simp] theorem completeReadId_sz (b : Byte) (s : State) : (completeReadId b s).sz = s.sz := rfl
@[simp] theorem completeReadId_rawx (b : Byte) (s : State) : (completeReadId b s).rawx = s.rawx := rfl
@[simp] theorem completeReadId_rawy (b : Byte) (s : State) : (completeReadId b s).rawy = s.rawy := rfl
@[simp] theorem completeReadId_rawz (b : Byte) (s : State) : (completeReadId b s).rawz = s.rawz := rfl
@[simp] theorem completeReadId_ctrl1Img (b : Byte) (s : State) : (completeReadId b s).ctrl1Img = s.ctrl1Img := rfl
@[simp] theorem completeReadId_dec (b : Byte) (s : State) : (completeReadId b s).dec = s.dec := rfl
@[simp] theorem completeReadId_errinfo (b : Byte) (s : State) : (completeReadId b s).errinfo = s.errinfo := rfl
@[simp] theorem completeReadId_latch (b : Byte) (s : State) : (completeReadId b s).latch = s.latch := rfl
@[simp] theorem completeReadId_seq (b : Byte) (s : State) : (completeReadId b s).seq = .idle := rfl
@[simp] theorem completeReadId_snap (b : Byte) (s : State) : (completeReadId b s).snap = s.snap := rfl
@[simp] theorem completeReadId_pend (b : Byte) (s : State) : (completeReadId b s).pend = s.pend := rfl
@[simp] theorem completeReadId_trace (b : Byte) (s : State) : (completeReadId b s).trace = s.trace := rfl
@[simp] theorem completeReadId_prog (b : Byte) (s : State) : (completeReadId b s).prog = s.prog := rfl
@[simp] theorem completeReadId_turns (b : Byte) (s : State) : (completeReadId b s).turns = s.turns := rfl
@[simp] theorem completeReadId_rdata (b : Byte) (s : State) : (completeReadId b s).rdata = s.rdata := rfl
@[simp] theorem completeReadId_mover (b : Byte) (s : State) : (completeReadId b s).mover = s.mover := rfl
@[simp] theorem completeReadId_params (b : Byte) (s : State) : (completeReadId b s).params = s.params := rfl

/-! ### sampleEffects -/

@[simp] theorem sampleEffects_status (s : State) : (sampleEffects s).status = { s.status with svalid := false } := rfl
@[simp] theorem sampleEffects_cfg (s : State) : (sampleEffects s).cfg = s.cfg := rfl
@[simp] theorem sampleEffects_id (s : State) : (sampleEffects s).id = s.id := rfl
@[simp] theorem sampleEffects_sx (s : State) : (sampleEffects s).sx = s.sx := rfl
@[simp] theorem sampleEffects_sy (s : State) : (sampleEffects s).sy = s.sy := rfl
@[simp] theorem sampleEffects_sz (s : State) : (sampleEffects s).sz = s.sz := rfl
@[simp] theorem sampleEffects_rawx (s : State) : (sampleEffects s).rawx = s.rawx := rfl
@[simp] theorem sampleEffects_rawy (s : State) : (sampleEffects s).rawy = s.rawy := rfl
@[simp] theorem sampleEffects_rawz (s : State) : (sampleEffects s).rawz = s.rawz := rfl
@[simp] theorem sampleEffects_ctrl1Img (s : State) : (sampleEffects s).ctrl1Img = s.ctrl1Img := rfl
@[simp] theorem sampleEffects_dec (s : State) : (sampleEffects s).dec = s.dec := rfl
@[simp] theorem sampleEffects_errinfo (s : State) : (sampleEffects s).errinfo = s.errinfo := rfl
@[simp] theorem sampleEffects_latch (s : State) : (sampleEffects s).latch = s.latch := rfl
@[simp] theorem sampleEffects_seq (s : State) : (sampleEffects s).seq = .smp := rfl
@[simp] theorem sampleEffects_snap (s : State) : (sampleEffects s).snap = s.snap := rfl
@[simp] theorem sampleEffects_pend (s : State) : (sampleEffects s).pend = s.pend := rfl
@[simp] theorem sampleEffects_trace (s : State) : (sampleEffects s).trace = s.trace := rfl
@[simp] theorem sampleEffects_prog (s : State) : (sampleEffects s).prog = s.prog := rfl
@[simp] theorem sampleEffects_turns (s : State) : (sampleEffects s).turns = s.turns := rfl
@[simp] theorem sampleEffects_rdata (s : State) : (sampleEffects s).rdata = s.rdata := rfl
@[simp] theorem sampleEffects_mover (s : State) : (sampleEffects s).mover = s.mover := rfl
@[simp] theorem sampleEffects_params (s : State) : (sampleEffects s).params = s.params := rfl

/-! ### completeSample -/

@[simp] theorem completeSample_status (x y z : Half) (s : State) :
    (completeSample x y z s).status = { s.status.completed with svalid := true } := rfl
@[simp] theorem completeSample_cfg (x y z : Half) (s : State) : (completeSample x y z s).cfg = s.cfg := rfl
@[simp] theorem completeSample_id (x y z : Half) (s : State) : (completeSample x y z s).id = s.id := rfl
@[simp] theorem completeSample_sx (x y z : Half) (s : State) : (completeSample x y z s).sx = convLatched s x := rfl
@[simp] theorem completeSample_sy (x y z : Half) (s : State) : (completeSample x y z s).sy = convLatched s y := rfl
@[simp] theorem completeSample_sz (x y z : Half) (s : State) : (completeSample x y z s).sz = convLatched s z := rfl
@[simp] theorem completeSample_rawx (x y z : Half) (s : State) : (completeSample x y z s).rawx = sext32 x := rfl
@[simp] theorem completeSample_rawy (x y z : Half) (s : State) : (completeSample x y z s).rawy = sext32 y := rfl
@[simp] theorem completeSample_rawz (x y z : Half) (s : State) : (completeSample x y z s).rawz = sext32 z := rfl
@[simp] theorem completeSample_ctrl1Img (x y z : Half) (s : State) :
    (completeSample x y z s).ctrl1Img = s.ctrl1Img := rfl
@[simp] theorem completeSample_dec (x y z : Half) (s : State) : (completeSample x y z s).dec = s.dec := rfl
@[simp] theorem completeSample_errinfo (x y z : Half) (s : State) :
    (completeSample x y z s).errinfo = s.errinfo := rfl
@[simp] theorem completeSample_latch (x y z : Half) (s : State) : (completeSample x y z s).latch = s.latch := rfl
@[simp] theorem completeSample_seq (x y z : Half) (s : State) : (completeSample x y z s).seq = .idle := rfl
@[simp] theorem completeSample_snap (x y z : Half) (s : State) : (completeSample x y z s).snap = s.snap := rfl
@[simp] theorem completeSample_pend (x y z : Half) (s : State) : (completeSample x y z s).pend = s.pend := rfl
@[simp] theorem completeSample_trace (x y z : Half) (s : State) : (completeSample x y z s).trace = s.trace := rfl
@[simp] theorem completeSample_prog (x y z : Half) (s : State) : (completeSample x y z s).prog = s.prog := rfl
@[simp] theorem completeSample_turns (x y z : Half) (s : State) : (completeSample x y z s).turns = s.turns := rfl
@[simp] theorem completeSample_rdata (x y z : Half) (s : State) : (completeSample x y z s).rdata = s.rdata := rfl
@[simp] theorem completeSample_mover (x y z : Half) (s : State) : (completeSample x y z s).mover = s.mover := rfl
@[simp] theorem completeSample_params (x y z : Half) (s : State) : (completeSample x y z s).params = s.params := rfl

/-! ### decodeEffects -/

@[simp] theorem decodeEffects_status (s : State) : (decodeEffects s).status = s.status := rfl
@[simp] theorem decodeEffects_cfg (s : State) : (decodeEffects s).cfg = s.cfg := rfl
@[simp] theorem decodeEffects_id (s : State) : (decodeEffects s).id = s.id := rfl
@[simp] theorem decodeEffects_sx (s : State) : (decodeEffects s).sx = s.sx := rfl
@[simp] theorem decodeEffects_sy (s : State) : (decodeEffects s).sy = s.sy := rfl
@[simp] theorem decodeEffects_sz (s : State) : (decodeEffects s).sz = s.sz := rfl
@[simp] theorem decodeEffects_rawx (s : State) : (decodeEffects s).rawx = s.rawx := rfl
@[simp] theorem decodeEffects_rawy (s : State) : (decodeEffects s).rawy = s.rawy := rfl
@[simp] theorem decodeEffects_rawz (s : State) : (decodeEffects s).rawz = s.rawz := rfl
@[simp] theorem decodeEffects_ctrl1Img (s : State) : (decodeEffects s).ctrl1Img = s.ctrl1Img := rfl
@[simp] theorem decodeEffects_dec (s : State) : (decodeEffects s).dec = s.dec := rfl
@[simp] theorem decodeEffects_errinfo (s : State) : (decodeEffects s).errinfo = s.errinfo := rfl
@[simp] theorem decodeEffects_latch (s : State) : (decodeEffects s).latch = s.latch := rfl
@[simp] theorem decodeEffects_seq (s : State) : (decodeEffects s).seq = .dec := rfl
@[simp] theorem decodeEffects_snap (s : State) : (decodeEffects s).snap = s.snap := rfl
@[simp] theorem decodeEffects_pend (s : State) : (decodeEffects s).pend = s.pend := rfl
@[simp] theorem decodeEffects_trace (s : State) : (decodeEffects s).trace = s.trace := rfl
@[simp] theorem decodeEffects_prog (s : State) : (decodeEffects s).prog = s.prog := rfl
@[simp] theorem decodeEffects_turns (s : State) : (decodeEffects s).turns = s.turns := rfl
@[simp] theorem decodeEffects_rdata (s : State) : (decodeEffects s).rdata = s.rdata := rfl
@[simp] theorem decodeEffects_mover (s : State) : (decodeEffects s).mover = s.mover := rfl
@[simp] theorem decodeEffects_params (s : State) : (decodeEffects s).params = s.params := rfl

/-! ### completeDecode -/

@[simp] theorem completeDecode_status (s : State) : (completeDecode s).status = s.status.completed := rfl
@[simp] theorem completeDecode_cfg (s : State) : (completeDecode s).cfg = s.cfg := rfl
@[simp] theorem completeDecode_id (s : State) : (completeDecode s).id = s.id := rfl
@[simp] theorem completeDecode_sx (s : State) : (completeDecode s).sx = s.sx := rfl
@[simp] theorem completeDecode_sy (s : State) : (completeDecode s).sy = s.sy := rfl
@[simp] theorem completeDecode_sz (s : State) : (completeDecode s).sz = s.sz := rfl
@[simp] theorem completeDecode_rawx (s : State) : (completeDecode s).rawx = s.rawx := rfl
@[simp] theorem completeDecode_rawy (s : State) : (completeDecode s).rawy = s.rawy := rfl
@[simp] theorem completeDecode_rawz (s : State) : (completeDecode s).rawz = s.rawz := rfl
@[simp] theorem completeDecode_ctrl1Img (s : State) : (completeDecode s).ctrl1Img = s.ctrl1Img := rfl
@[simp] theorem completeDecode_dec (s : State) : (completeDecode s).dec = decodeCtrl1 s.snap.imm := rfl
@[simp] theorem completeDecode_errinfo (s : State) : (completeDecode s).errinfo = s.errinfo := rfl
@[simp] theorem completeDecode_latch (s : State) : (completeDecode s).latch = s.latch := rfl
@[simp] theorem completeDecode_seq (s : State) : (completeDecode s).seq = .idle := rfl
@[simp] theorem completeDecode_snap (s : State) : (completeDecode s).snap = s.snap := rfl
@[simp] theorem completeDecode_pend (s : State) : (completeDecode s).pend = s.pend := rfl
@[simp] theorem completeDecode_trace (s : State) : (completeDecode s).trace = s.trace := rfl
@[simp] theorem completeDecode_prog (s : State) : (completeDecode s).prog = s.prog := rfl
@[simp] theorem completeDecode_turns (s : State) : (completeDecode s).turns = s.turns := rfl
@[simp] theorem completeDecode_rdata (s : State) : (completeDecode s).rdata = s.rdata := rfl
@[simp] theorem completeDecode_mover (s : State) : (completeDecode s).mover = s.mover := rfl
@[simp] theorem completeDecode_params (s : State) : (completeDecode s).params = s.params := rfl

/-! ### resetTurn -/

@[simp] theorem resetTurn_status (s : State) : (resetTurn s).status = ⟨false, false, false, false, false, false, false, false, 0⟩ := rfl
@[simp] theorem resetTurn_cfg (s : State) : (resetTurn s).cfg = ⟨5, true, .g2⟩ := rfl
@[simp] theorem resetTurn_id (s : State) : (resetTurn s).id = 0 := rfl
@[simp] theorem resetTurn_sx (s : State) : (resetTurn s).sx = 0 := rfl
@[simp] theorem resetTurn_sy (s : State) : (resetTurn s).sy = 0 := rfl
@[simp] theorem resetTurn_sz (s : State) : (resetTurn s).sz = 0 := rfl
@[simp] theorem resetTurn_rawx (s : State) : (resetTurn s).rawx = 0 := rfl
@[simp] theorem resetTurn_rawy (s : State) : (resetTurn s).rawy = 0 := rfl
@[simp] theorem resetTurn_rawz (s : State) : (resetTurn s).rawz = 0 := rfl
@[simp] theorem resetTurn_ctrl1Img (s : State) : (resetTurn s).ctrl1Img = ⟨0, false⟩ := rfl
@[simp] theorem resetTurn_dec (s : State) : (resetTurn s).dec = 0 := rfl
@[simp] theorem resetTurn_errinfo (s : State) : (resetTurn s).errinfo = .zero := rfl
@[simp] theorem resetTurn_latch (s : State) : (resetTurn s).latch = ⟨5, true, .g2, false⟩ := rfl
@[simp] theorem resetTurn_seq (s : State) : (resetTurn s).seq = .idle := rfl
@[simp] theorem resetTurn_snap (s : State) : (resetTurn s).snap = ⟨5, true, .g2, 0⟩ := rfl
@[simp] theorem resetTurn_pend (s : State) : (resetTurn s).pend = .none := rfl
@[simp] theorem resetTurn_trace (s : State) : (resetTurn s).trace = s.trace ++ [.reset] := rfl
@[simp] theorem resetTurn_prog (s : State) : (resetTurn s).prog = s.prog := rfl
@[simp] theorem resetTurn_turns (s : State) : (resetTurn s).turns = s.turns := rfl
@[simp] theorem resetTurn_rdata (s : State) : (resetTurn s).rdata = s.rdata := rfl
@[simp] theorem resetTurn_mover (s : State) : (resetTurn s).mover = s.mover := rfl
@[simp] theorem resetTurn_params (s : State) : (resetTurn s).params = s.params := rfl

end Sys2Proof.Machine
end

