-- ==== Sys2Proof/Laws/Ops.lean ====
section
/-! SUPPORT. What each shared operation, each meaning and the step can do, said once: later proofs cite these lemmas and
do not unfold the definitions. -/

namespace Sys2Proof.Machine

variable {s t : State}

/-! ### The meanings by the agent that moves -/

theorem exec_configure_host (h : s.mover = .host) :
    exec .configure s = .next (present .configure configureEffects s) := by
  simp [exec, execConfigure, h]

theorem exec_configure_sequencer (h : s.mover = .sequencer) :
    exec .configure s = .next (configureStep s) := by
  simp [exec, execConfigure, h]

theorem exec_readId_host (h : s.mover = .host) :
    exec .readId s = .next (present .readId readIdEffects s) := by
  simp [exec, execReadId, h]

theorem exec_readId_sequencer (h : s.mover = .sequencer) : exec .readId s = .next (readIdStep s) := by
  simp [exec, execReadId, h]

theorem exec_sample_host (h : s.mover = .host) :
    exec .sample s = .next (present .sample sampleEffects s) := by
  simp [exec, execSample, h]

theorem exec_sample_sequencer (h : s.mover = .sequencer) : exec .sample s = .next (sampleStep s) := by
  simp [exec, execSample, h]

theorem exec_decode_host {imm : Byte} (h : s.mover = .host) :
    exec (.decode imm) s = .next (present (.decode imm) decodeEffects s) := by
  simp [exec, execDecode, h]

theorem exec_decode_sequencer {imm : Byte} (h : s.mover = .sequencer) :
    exec (.decode imm) s = .next (decodeStep s) := by
  simp [exec, execDecode, h]

/-! ### The shared operations -/

/-- A presented word is dropped while BUSY and accepted otherwise. -/
theorem present_cases (i : Instr) (e : State → State) (s : State) :
    (s.status.busy = true ∧ present i e s = droppedCommand s) ∨
    (s.status.busy = false ∧ present i e s = e (accept i s)) := by
  cases h : s.status.busy <;> simp [present, h]

/-- An illegal word sets DROP while BUSY and ILL otherwise. -/
theorem illegalWord_cases (s : State) :
    (s.status.busy = true ∧ illegalWord s = droppedCommand s) ∨
    (s.status.busy = false ∧ illegalWord s = illegalCommand s) := by
  cases h : s.status.busy <;> simp [illegalWord, h]

/-- The Transport's turn answers a waiting request with a fitting response, or does nothing. -/
theorem transportTurn_cases (resp : BusResp) (s : State) :
    transportTurn resp s = s ∨
    ∃ req, s.pend = .issued req ∧ respFits req resp = true ∧
      transportTurn resp s = { s with pend := .answered req resp, trace := s.trace ++ [.resp resp] } := by
  unfold transportTurn
  split
  · next req h =>
    split
    · next hf => exact .inr ⟨req, h, hf, rfl⟩
    · exact .inl rfl
  · exact .inl rfl

/-- Everything CONFIGURE's Sequencer step can do. -/
theorem configureStep_cases (s : State) :
    configureStep s = s ∨
    (∃ req, configuring s.seq = true ∧ s.pend = .none ∧ requestOf s = some req ∧ configureStep s = issue req s) ∨
    (∃ req, s.seq = .cfg1 ∧ s.pend = .answered req (.ok []) ∧
      configureStep s = { consume s with seq := .cfg2 }) ∨
    (∃ req, s.seq = .cfg2 ∧ s.pend = .answered req (.ok []) ∧ configureStep s = cfg2Done (consume s)) ∨
    (∃ req, s.seq = .cfg3 ∧ s.pend = .answered req (.ok []) ∧ configureStep s = completeConfigure (consume s)) ∨
    (∃ req p c, s.seq = .cfg1 ∧ s.pend = .answered req (.fail p c) ∧
      configureStep s = transportFailure 1 1 p c s.params.aDataRate (consume s)) ∨
    (∃ req p c, s.seq = .cfg2 ∧ s.pend = .answered req (.fail p c) ∧
      configureStep s = transportFailure 1 2 p c s.params.aCtrl1 (forgetImage (consume s))) ∨
    (∃ req p c, s.seq = .cfg3 ∧ s.pend = .answered req (.fail p c) ∧
      configureStep s = transportFailure 1 3 p c s.params.aCtrl1 (forgetImage (consume s))) := by
  unfold configureStep
  split <;> simp_all [requestOf, configuring]

/-- Everything READ_ID's Sequencer step can do. -/
theorem readIdStep_cases (s : State) :
    readIdStep s = s ∨
    (s.seq = .rid ∧ s.pend = .none ∧ readIdStep s = issue (ridReq s) s) ∨
    (∃ req b, s.seq = .rid ∧ s.pend = .answered req (.ok [b]) ∧ readIdStep s = completeReadId b (consume s)) ∨
    (∃ req p c, s.seq = .rid ∧ s.pend = .answered req (.fail p c) ∧
      readIdStep s = transportFailure 2 0 p c s.params.aWhoAmI (consume s)) := by
  unfold readIdStep
  split <;> simp_all

/-- Everything SAMPLE's Sequencer step can do. -/
theorem sampleStep_cases (s : State) :
    sampleStep s = s ∨
    (s.seq = .smp ∧ s.pend = .none ∧ sampleStep s = issue (smpReq s) s) ∨
    (∃ req b0 b1 b2 b3 b4 b5, s.seq = .smp ∧ s.pend = .answered req (.ok [b0, b1, b2, b3, b4, b5]) ∧
      sampleStep s = completeSample (axisValue b0 b1) (axisValue b2 b3) (axisValue b4 b5) (consume s)) ∨
    (∃ req p c, s.seq = .smp ∧ s.pend = .answered req (.fail p c) ∧
      sampleStep s = transportFailure 3 0 p c s.params.aXoutL (consume s)) := by
  unfold sampleStep
  split <;> simp_all

/-- Everything DECODE's Sequencer step can do. -/
theorem decodeStep_cases (s : State) :
    (s.seq ≠ .dec ∧ decodeStep s = s) ∨ (s.seq = .dec ∧ decodeStep s = completeDecode s) := by
  unfold decodeStep
  split <;> simp_all

/-! ### The turns -/

/-- A CMD write is an illegal word or the presentation of the command it decodes to. -/
theorem cmdWrite_cases (w : Word) (s : State) :
    (∃ why, decodeWord w = .illegal why ∧ cmdWrite w s = .next (illegalWord { s with mover := .host })) ∨
    (∃ i, decodeWord w = .cmd i ∧ cmdWrite w s = exec i { s with mover := .host }) := by
  unfold cmdWrite
  split
  · next i h => exact .inr ⟨i, h, rfl⟩
  · next why h => exact .inl ⟨why, h, rfl⟩

/-- A host write reaches CMD, STATUS or CFG, or nothing. -/
theorem hostWrite_cases (width : Width) (off v : Word) (s : State) :
    (width = .w32 ∧ off = 0x00 ∧ hostWrite width off v s = cmdWrite v s) ∨
    (width = .w32 ∧ off = 0x04 ∧ hostWrite width off v s = .next (statusWrite v s)) ∨
    (width = .w32 ∧ off = 0x08 ∧ hostWrite width off v s = .next (cfgWrite v s)) ∨
    hostWrite width off v s = .next s := by
  unfold hostWrite accessDefined
  split
  · split
    · simp_all
    · split
      · simp_all
      · split <;> simp_all
  · simp

/-- The Host's turn, by the head of its program. -/
theorem hostTurn_cases (s : State) :
    (s.prog = [] ∧ hostTurn s = .next s) ∨
    (∃ width off v rest, s.prog = .write width off v :: rest ∧
      hostTurn s = hostWrite width off v { s with prog := rest }) ∨
    (∃ width off rest, s.prog = .read width off :: rest ∧
      hostTurn s = .next { s with prog := rest, rdata := hostRead s width off }) ∨
    (∃ off mask v rest, s.prog = .poll off mask v :: rest ∧ hostRead s .w32 off &&& mask = v ∧
      hostTurn s = .next { s with prog := rest, rdata := hostRead s .w32 off }) ∨
    (∃ off mask v rest, s.prog = .poll off mask v :: rest ∧ ¬(hostRead s .w32 off &&& mask = v) ∧
      hostTurn s = .next { s with rdata := hostRead s .w32 off }) := by
  unfold hostTurn
  split
  · next h => simp [h]
  · next h => simp [h]
  · next h => simp [h]
  · next off mask v rest h =>
    split
    · next hv => simp [h, hv]
    · next hv => simp [h, hv]

/-- The Sequencer's turn, by its state: nothing at IDLE, otherwise one step of the running command. -/
theorem sequencerTurn_cases (s : State) :
    (s.seq = .idle ∧ sequencerTurn s = .next s) ∨
    (configuring s.seq = true ∧ sequencerTurn s = .next (configureStep { s with mover := .sequencer })) ∨
    (s.seq = .rid ∧ sequencerTurn s = .next (readIdStep { s with mover := .sequencer })) ∨
    (s.seq = .smp ∧ sequencerTurn s = .next (sampleStep { s with mover := .sequencer })) ∨
    (s.seq = .dec ∧ sequencerTurn s = .next (completeDecode { s with mover := .sequencer })) := by
  cases h : s.seq <;>
    simp [sequencerTurn, running, h, configuring, exec, execConfigure, execReadId, execSample, execDecode, decodeStep]

/-- The step, by the head of the schedule. -/
theorem step_cases (s : State) :
    (s.turns = [] ∧ step s = .next s) ∨
    (∃ rest, s.turns = .host :: rest ∧ step s = hostTurn { s with turns := rest }) ∨
    (∃ rest, s.turns = .sequencer :: rest ∧ step s = sequencerTurn { s with turns := rest }) ∨
    (∃ resp rest, s.turns = .transport resp :: rest ∧
      step s = .next (transportTurn resp { s with turns := rest })) ∨
    (∃ rest, s.turns = .reset :: rest ∧ step s = .next (resetTurn { s with turns := rest })) := by
  unfold step
  split
  · next h => simp [h]
  · next t rest h => cases t <;> simp [h, stepTurn]

/-! ### Everything a step can do -/

/-- What one step from `s` does to the block: `u` is `s` with only the agents' own fields moved on, and the last argument
is the state after the step. Each constructor is one event of the spec, with its guard. -/
inductive StepEffect (s u : State) : State → Prop where
  | quiet : StepEffect s u u
  | reset (h : Resets s) : StepEffect s u (resetTurn u)
  | statusWritten (v : Word) (h : HostWrites s 0x04 v) : StepEffect s u (statusWrite v u)
  | cfgWritten (v : Word) (h : HostWrites s 0x08 v) : StepEffect s u (cfgWrite v u)
  | dropped (w : Word) (h : HostWrites s 0x00 w) (hb : s.status.busy = true) : StepEffect s u (droppedCommand u)
  | illegal (w : Word) (h : HostWrites s 0x00 w) (hb : s.status.busy = false) : StepEffect s u (illegalCommand u)
  | acceptConfigure (h : Accepts s .configure) : StepEffect s u (configureEffects (accept .configure u))
  | acceptReadId (h : Accepts s .readId) : StepEffect s u (readIdEffects (accept .readId u))
  | acceptSample (h : Accepts s .sample) : StepEffect s u (sampleEffects (accept .sample u))
  | acceptDecode (imm : Byte) (h : Accepts s (.decode imm)) :
      StepEffect s u (decodeEffects (accept (.decode imm) u))
  | issued (req : BusReq) (h : s.turns.head? = some .sequencer) (hp : s.pend = .none)
      (hr : requestOf s = some req) : StepEffect s u (issue req u)
  | cfg1Ok (req : BusReq) (h : s.turns.head? = some .sequencer) (hq : s.seq = .cfg1)
      (hp : s.pend = .answered req (.ok [])) : StepEffect s u { consume u with seq := .cfg2 }
  | cfg2Ok (req : BusReq) (h : s.turns.head? = some .sequencer) (hq : s.seq = .cfg2)
      (hp : s.pend = .answered req (.ok [])) : StepEffect s u (cfg2Done (consume u))
  | cfg3Ok (req : BusReq) (h : s.turns.head? = some .sequencer) (hq : s.seq = .cfg3)
      (hp : s.pend = .answered req (.ok [])) : StepEffect s u (completeConfigure (consume u))
  | cfg1Fail (req : BusReq) (p : Phase) (c : Byte) (h : s.turns.head? = some .sequencer) (hq : s.seq = .cfg1)
      (hp : s.pend = .answered req (.fail p c)) :
      StepEffect s u (transportFailure 1 1 p c s.params.aDataRate (consume u))
  | cfg2Fail (req : BusReq) (p : Phase) (c : Byte) (h : s.turns.head? = some .sequencer) (hq : s.seq = .cfg2)
      (hp : s.pend = .answered req (.fail p c)) :
      StepEffect s u (transportFailure 1 2 p c s.params.aCtrl1 (forgetImage (consume u)))
  | cfg3Fail (req : BusReq) (p : Phase) (c : Byte) (h : s.turns.head? = some .sequencer) (hq : s.seq = .cfg3)
      (hp : s.pend = .answered req (.fail p c)) :
      StepEffect s u (transportFailure 1 3 p c s.params.aCtrl1 (forgetImage (consume u)))
  | ridOk (req : BusReq) (b : Byte) (h : s.turns.head? = some .sequencer) (hq : s.seq = .rid)
      (hp : s.pend = .answered req (.ok [b])) : StepEffect s u (completeReadId b (consume u))
  | ridFail (req : BusReq) (p : Phase) (c : Byte) (h : s.turns.head? = some .sequencer) (hq : s.seq = .rid)
      (hp : s.pend = .answered req (.fail p c)) :
      StepEffect s u (transportFailure 2 0 p c s.params.aWhoAmI (consume u))
  | smpOk (req : BusReq) (b0 b1 b2 b3 b4 b5 : Byte) (h : s.turns.head? = some .sequencer) (hq : s.seq = .smp)
      (hp : s.pend = .answered req (.ok [b0, b1, b2, b3, b4, b5])) :
      StepEffect s u (completeSample (axisValue b0 b1) (axisValue b2 b3) (axisValue b4 b5) (consume u))
  | smpFail (req : BusReq) (p : Phase) (c : Byte) (h : s.turns.head? = some .sequencer) (hq : s.seq = .smp)
      (hp : s.pend = .answered req (.fail p c)) :
      StepEffect s u (transportFailure 3 0 p c s.params.aXoutL (consume u))
  | decoded (h : CompletesDecode s) : StepEffect s u (completeDecode u)
  | answered (req : BusReq) (resp : BusResp) (h : s.turns.head? = some (.transport resp))
      (hp : s.pend = .issued req) (hf : respFits req resp = true) :
      StepEffect s u { u with pend := .answered req resp, trace := u.trace ++ [.resp resp] }

/-- The inversion of a CMD write. -/
theorem cmdWrite_effect {w : Word} {u : State} (hw : HostWrites s 0x00 w) (hb : u.status.busy = s.status.busy)
    (h : cmdWrite w u = .next t) : StepEffect s { u with mover := .host } t := by
  rcases cmdWrite_cases w u with ⟨why, _, e⟩ | ⟨i, hi, e⟩
  · rw [e] at h
    obtain rfl := Host.Outcome.next.inj h
    rcases illegalWord_cases { u with mover := .host } with ⟨b, e⟩ | ⟨b, e⟩ <;> rw [e]
    · exact .dropped w hw (hb ▸ b)
    · exact .illegal w hw (hb ▸ b)
  · rw [e] at h
    have acc : ∀ {b : Bool}, u.status.busy = b → b = false → Accepts s i := fun b h =>
      ⟨w, hw, hi, by rw [← hb, b, h]⟩
    cases i
    · rw [exec_configure_host rfl] at h
      obtain rfl := Host.Outcome.next.inj h
      rcases present_cases .configure configureEffects { u with mover := .host } with ⟨b, e⟩ | ⟨b, e⟩ <;> rw [e]
      · exact .dropped w hw (hb ▸ b)
      · exact .acceptConfigure (acc b rfl)
    · rw [exec_readId_host rfl] at h
      obtain rfl := Host.Outcome.next.inj h
      rcases present_cases .readId readIdEffects { u with mover := .host } with ⟨b, e⟩ | ⟨b, e⟩ <;> rw [e]
      · exact .dropped w hw (hb ▸ b)
      · exact .acceptReadId (acc b rfl)
    · rw [exec_sample_host rfl] at h
      obtain rfl := Host.Outcome.next.inj h
      rcases present_cases .sample sampleEffects { u with mover := .host } with ⟨b, e⟩ | ⟨b, e⟩ <;> rw [e]
      · exact .dropped w hw (hb ▸ b)
      · exact .acceptSample (acc b rfl)
    · next imm =>
      rw [exec_decode_host rfl] at h
      obtain rfl := Host.Outcome.next.inj h
      rcases present_cases (.decode imm) decodeEffects { u with mover := .host } with ⟨b, e⟩ | ⟨b, e⟩ <;> rw [e]
      · exact .dropped w hw (hb ▸ b)
      · exact .acceptDecode imm (acc b rfl)

/-- The inversion of the step: whatever step `s` takes, it is one of the events of StepEffect, and only the agents' own
fields move beside it. -/
theorem step_effect (h : step s = .next t) :
    ∃ prog turns rdata mover, StepEffect s { s with prog := prog, turns := turns, rdata := rdata, mover := mover } t := by
  rcases step_cases s with ⟨_, e⟩ | ⟨rest, ht, e⟩ | ⟨rest, ht, e⟩ | ⟨resp, rest, ht, e⟩ | ⟨rest, ht, e⟩ <;> rw [e] at h
  · obtain rfl := Host.Outcome.next.inj h
    exact ⟨s.prog, s.turns, s.rdata, s.mover, .quiet⟩
  · rcases hostTurn_cases { s with turns := rest } with
      ⟨_, e⟩ | ⟨width, off, v, more, hp, e⟩ | ⟨width, off, more, _, e⟩ | ⟨off, mask, v, more, _, _, e⟩ |
      ⟨off, mask, v, more, _, _, e⟩ <;> rw [e] at h
    · obtain rfl := Host.Outcome.next.inj h
      exact ⟨s.prog, rest, s.rdata, s.mover, .quiet⟩
    · have hw : width = .w32 → HostWrites s off v := fun hw => ⟨by rw [ht]; rfl, by
        rw [show s.prog = _ from hp, hw]; rfl⟩
      rcases hostWrite_cases width off v { s with prog := more, turns := rest } with
        ⟨h32, rfl, e⟩ | ⟨h32, rfl, e⟩ | ⟨h32, rfl, e⟩ | e <;> rw [e] at h
      · exact ⟨more, rest, s.rdata, .host, cmdWrite_effect (u := { s with prog := more, turns := rest }) (hw h32) rfl h⟩
      · obtain rfl := Host.Outcome.next.inj h
        exact ⟨more, rest, s.rdata, s.mover, .statusWritten v (hw h32)⟩
      · obtain rfl := Host.Outcome.next.inj h
        exact ⟨more, rest, s.rdata, s.mover, .cfgWritten v (hw h32)⟩
      · obtain rfl := Host.Outcome.next.inj h
        exact ⟨more, rest, s.rdata, s.mover, .quiet⟩
    all_goals
      obtain rfl := Host.Outcome.next.inj h
      exact ⟨_, rest, _, s.mover, .quiet⟩
  · have hh : s.turns.head? = some .sequencer := by rw [ht]; rfl
    refine ⟨s.prog, rest, s.rdata, if s.seq = .idle then s.mover else .sequencer, ?_⟩
    rcases sequencerTurn_cases { s with turns := rest } with
      ⟨hq, e⟩ | ⟨hq, e⟩ | ⟨hq, e⟩ | ⟨hq, e⟩ | ⟨hq, e⟩ <;> rw [e] at h <;> obtain rfl := Host.Outcome.next.inj h
    · rw [if_pos hq]; exact .quiet
    · rw [if_neg (by intro hi; simp [hi, configuring] at hq)]
      rcases configureStep_cases { s with turns := rest, mover := .sequencer } with
        e | ⟨req, _, hp, hr, e⟩ | ⟨req, hq, hp, e⟩ | ⟨req, hq, hp, e⟩ | ⟨req, hq, hp, e⟩ | ⟨req, p, c, hq, hp, e⟩ |
        ⟨req, p, c, hq, hp, e⟩ | ⟨req, p, c, hq, hp, e⟩ <;> rw [e]
      · exact .quiet
      · exact .issued req hh hp hr
      · exact .cfg1Ok req hh hq hp
      · exact .cfg2Ok req hh hq hp
      · exact .cfg3Ok req hh hq hp
      · exact .cfg1Fail req p c hh hq hp
      · exact .cfg2Fail req p c hh hq hp
      · exact .cfg3Fail req p c hh hq hp
    · rw [if_neg (by rw [show s.seq = .rid from hq]; exact Seq.noConfusion)]
      rcases readIdStep_cases { s with turns := rest, mover := .sequencer } with
        e | ⟨hq, hp, e⟩ | ⟨req, b, hq, hp, e⟩ | ⟨req, p, c, hq, hp, e⟩ <;> rw [e]
      · exact .quiet
      · exact .issued _ hh hp (by rw [requestOf, show s.seq = .rid from hq]; rfl)
      · exact .ridOk req b hh hq hp
      · exact .ridFail req p c hh hq hp
    · rw [if_neg (by rw [show s.seq = .smp from hq]; exact Seq.noConfusion)]
      rcases sampleStep_cases { s with turns := rest, mover := .sequencer } with
        e | ⟨hq, hp, e⟩ | ⟨req, b0, b1, b2, b3, b4, b5, hq, hp, e⟩ | ⟨req, p, c, hq, hp, e⟩ <;> rw [e]
      · exact .quiet
      · exact .issued _ hh hp (by rw [requestOf, show s.seq = .smp from hq]; rfl)
      · exact .smpOk req b0 b1 b2 b3 b4 b5 hh hq hp
      · exact .smpFail req p c hh hq hp
    · rw [if_neg (by rw [show s.seq = .dec from hq]; exact Seq.noConfusion)]
      exact .decoded ⟨hh, hq⟩
  · obtain rfl := Host.Outcome.next.inj h
    refine ⟨s.prog, rest, s.rdata, s.mover, ?_⟩
    rcases transportTurn_cases resp { s with turns := rest } with e | ⟨req, hp, hf, e⟩ <;> rw [e]
    · exact .quiet
    · exact .answered req resp (by rw [ht]; rfl) hp hf
  · obtain rfl := Host.Outcome.next.inj h
    exact ⟨s.prog, rest, s.rdata, s.mover, .reset (by rw [Resets, ht]; rfl)⟩

end Sys2Proof.Machine
end

