-- ==== Sys2Proof/Laws/PerInstr.lean ====
section
/-! SUPPORT. What holds of every command as syntax, one lemma for each constructor. -/

namespace Sys2Proof.Laws

/-- The command's word is legal: exactly one row of the opcode table matches it (30_encoding.md R122). -/
def LegalWord.Statement (i : Instr) : Prop := legalWord (encode i) = true

theorem LegalWord.configure : LegalWord.Statement .configure := by
  unfold LegalWord.Statement
  decide

theorem LegalWord.readId : LegalWord.Statement .readId := by
  unfold LegalWord.Statement
  decide

theorem LegalWord.sample : LegalWord.Statement .sample := by
  unfold LegalWord.Statement
  decide

theorem LegalWord.decode (imm : Byte) : LegalWord.Statement (.decode imm) := by
  unfold LegalWord.Statement
  revert imm
  decide

end Sys2Proof.Laws
end

