-- ==== Sys2Proof/Laws/Values.lean ====
section
/-! SUPPORT. Small facts about the values the registers hold and about traces. -/

namespace Sys2Proof.Machine

/-- EPHASE 3 is never written (30_encoding.md R146). -/
theorem phaseCode_ne_three (p : Phase) : phaseCode p ≠ 3 := by cases p <;> decide

/-- The upper bits of a zero-extended byte. -/
theorem extractLsb'_zext32 (b : Byte) : (zext32 b).extractLsb' 8 24 = 0 := by revert b; decide

/-- A sign extension holds its 16 bits. -/
theorem extractLsb'_sext32 (r : Half) : (sext32 r).extractLsb' 0 16 = r := by
  ext i hi
  simp [sext32, BitVec.getElem_extractLsb', hi, show i < 32 by omega, BitVec.getElem_signExtend]

/-- DEC's BYTE field is the decoded byte (42_decoder.md R241). -/
theorem extractLsb'_decodeCtrl1 (b : Byte) : (decodeCtrl1 b).extractLsb' 0 8 = b := by revert b; decide

/-- The write-2 byte has the power bit clear (40_sequencer.md R176). -/
theorem encCtrl1_power_clear (res : Bool) (g : GSel) : (encCtrl1 res g).getLsbD 7 = false := by
  cases res <;> cases g <;> decide

/-- The failure phases' codes (30_encoding.md R146). -/
theorem phaseCode_eq (p : Phase) :
    phaseCode p =
      match p with
      | .write  => 0
      | .select => 1
      | .data   => 2 := by cases p <;> rfl

/-- A conversion by a finite non-zero divisor word, without the case split. -/
theorem conv_of_finite {r : Half} {d : Word} {v : Finite32} (h : finite32 d = some v) (h0 : v.mant ≠ 0) :
    conv r d =
      signedWord (r.msb != v.neg)
        (rne32Magnitude (r.toInt.natAbs * 2 ^ (-v.expo).toNat) (v.mant * 2 ^ v.expo.toNat)) := by
  simp [conv, h, h0]

/-- The largest magnitude is infinity's. -/
theorem rne32Magnitude_le (num den : Nat) : rne32Magnitude num den ≤ 0x7F800000 := by
  unfold rne32Magnitude
  split
  · omega
  · exact Nat.min_le_right _ _

/-- The parameters of the reset state meet their constraints. -/
theorem config_params_wf : Config.params.wf = true := by
  unfold Config.params
  split
  · assumption
  · decide

/-- A trace is read event by event: the stage after one more event. -/
theorem stageOf_append (p : Params) (g : BusStage) (tr : List BusEvent) (e : BusEvent) :
    stageOf p g (tr ++ [e]) = (stageOf p g tr).bind fun g' => g'.after p e := by
  induction tr generalizing g with
  | nil => cases h : g.after p e <;> simp [stageOf, h]
  | cons x xs ih => cases h : g.after p x <;> simp [stageOf, h, ih]

/-- An ODR code is a member of ODR_CODE. -/
theorem code_mem (p : Params) (odr : Fin 7) : p.code odr ∈ p.odrCode := by
  simp [Params.code]

end Sys2Proof.Machine
end

