-- ==== Sys2Proof/Tests/Slice0.lean ====
section
/-! SUPPORT. Small tests, their expected values from 95_test_vectors.md and the rules' own examples, and for every
statement with hypotheses a witness: a state and operands that meet all of them. -/

namespace Sys2Proof.Tests

open Sys2Proof Sys2Proof.Machine

/-! ### Building states -/

/-- The reset state under the test instantiation TI (92_eei_decisions.md D39). -/
def ti0 : State := { State.reset with params := .ti }

/-- TI's reset state with one host operation as the next step. -/
def hostNext (op : HostOp) : State := { ti0 with prog := [op], turns := [.host] }

/-- A running command: its opcode, its sequencer state and its slot; the Sequencer moves next. -/
def busyWith (op : Byte) (q : Seq) (p : Pend) : State :=
  { ti0 with
    status := ⟨true, false, false, false, false, false, false, false, op⟩
    seq    := q
    pend   := p
    turns  := [.sequencer]
    mover  := .sequencer }

/-- The state after the next step. -/
def after (s : State) : Option State :=
  match step s with
  | .next t => some t
  | .fault _ => none
  | .refused _ => none

/-- What the host reads at `off` after the next step. -/
def readAfter (s : State) (off : Word) : Option Word := (after s).map fun t => hostRead t .w32 off

/-- The six bytes of the source's Scenario (95_test_vectors.md L1.7). -/
def scenario : List Byte := [0x00, 0x00, 0xE8, 0x03, 0x18, 0xFC]

/-! ### Decoding and encoding (30_encoding.md R122, 95_test_vectors.md V1, V7) -/

theorem test_decode_configure : decodeTableWord 32 0b00000000000000000000000000000001 = some .configure := by decide

theorem test_decode_readId : decodeTableWord 32 0b00000000000000000000000000000010 = some .readId := by decide

theorem test_decode_sample : decodeTableWord 32 0b00000000000000000000000000000011 = some .sample := by decide

theorem test_decode_decode : decodeTableWord 32 0b00000000000000001001100000000100 = some (.decode 0x98) := by decide

theorem test_encode_decode : encode (.decode 0xC0) = 0x0000C004 ∧ wordBytes (encode (.decode 0xC0)) = [0x04, 0xC0, 0, 0] := by
  decide

/-- 30_encoding.md R150: mnemonics in any case, imm8 up to 255 and for `decode` only. -/
theorem test_assemble :
    assemble ['R', 'E', 'A', 'D', '_', 'i', 'd'] none = some 0x00000002 ∧
    assemble ['d', 'e', 'c', 'o', 'd', 'e'] (some 255) = some 0x0000FF04 ∧
    assemble ['d', 'e', 'c', 'o', 'd', 'e'] (some 256) = none ∧
    assemble ['s', 'a', 'm', 'p', 'l', 'e'] (some 1) = none := by decide

/-! ### The checks refuse what is ill formed -/

/-- 30_encoding.md R124 (a), (b), (c): the table of WellFormed.lean refuses each. -/
theorem test_wellFormed_refuses_words :
    legalWord 0x00000000 = false ∧ legalWord 0x00000005 = false ∧ legalWord 0x80000004 = false ∧
    legalWord 0x00000101 = false ∧ legalWord 0xFFFFFFFF = false := by decide

/-- Not one word: no command. -/
theorem test_decodeBytes_refuses_lengths :
    decodeBytes [] = .illegal .notOneWord ∧ decodeBytes [1, 0, 0] = .illegal .notOneWord ∧
    decodeBytes [1, 0, 0, 0, 0] = .illegal .notOneWord := by decide

/-- 92_eei_decisions.md D10, D11: TI is well formed; an aliased address, an output range past 0xFF, a name inside the
outputs and a repeated ODR code are not. -/
theorem test_wellFormed_params :
    Params.ti.wf = true ∧
    (Params.wf { Params.ti with aCtrl2 := 0x1B }) = false ∧
    (Params.wf { Params.ti with aXoutL := 0xFB }) = false ∧
    (Params.wf { Params.ti with aWhoAmI := 0x0B }) = false ∧
    (Params.wf { Params.ti with odrCode := #v[0, 1, 2, 3, 4, 5, 5] }) = false := by decide

/-- 42_decoder.md R251: a slot that is not PRESENT is zero, a PRESENT one has a KIND, AXIS and HIGH belong to KIND 5. -/
theorem test_wellFormed_mapExtra :
    (Params.wf { Params.ti with mapExtra := #v[0x80000620, 0, 0] }) = true ∧
    (Params.wf { Params.ti with mapExtra := #v[0x00000620, 0, 0] }) = false ∧
    (Params.wf { Params.ti with mapExtra := #v[0x80000020, 0, 0] }) = false ∧
    (Params.wf { Params.ti with mapExtra := #v[0x80010620, 0, 0] }) = false ∧
    (Params.wf { Params.ti with mapExtra := #v[0x80030520, 0, 0] }) = false := by decide

/-- 20_memory.md R90: wrong lengths and wrong phases. -/
theorem test_wellFormed_responses :
    respFits (.wr 0x1B 0x40) (.ok [0]) = false ∧ respFits (.rd 0x0F) (.ok []) = false ∧
    respFits (.rdseq 0x06 6) (.ok [0, 0, 0, 0, 0]) = false ∧ respFits (.wr 0x1B 0x40) (.fail .data 1) = false ∧
    respFits (.rd 0x0F) (.fail .write 1) = false ∧ respFits (.rdseq 0x06 6) (.fail .select 1) = true := by decide

/-! ### One step of each command -/

/-- V6.3: write 3 fails with code 1; STATUS, ERRINFO and CTRL1_IMG. -/
theorem test_configure_write3_fails :
    let s : State := { busyWith 1 .cfg3 (.answered (.wr 0x1B 0xC0) (.fail .write 1)) with ctrl1Img := ⟨0x40, true⟩ }
    readAfter s 0x04 = some 0x00000104 ∧ readAfter s 0x30 = some 0x801B3101 ∧ readAfter s 0x28 = some 0x00000040 := by
  decide

/-- L1.1: the third OK; STATUS, CTRL1_IMG and LATCH. -/
theorem test_configure_completes :
    let s : State := busyWith 1 .cfg3 (.answered (.wr 0x1B 0xC0) (.ok []))
    readAfter s 0x04 = some 0x0000010A ∧ readAfter s 0x28 = some 0x800000C0 ∧ readAfter s 0x34 = some 0x8000000D := by
  decide

/-- L1.8, V4: any identity byte is stored. -/
theorem test_readId_completes :
    let s : State := busyWith 2 .rid (.answered (.rd 0x0F) (.ok [0x33]))
    readAfter s 0x0C = some 0x00000033 ∧ readAfter s 0x04 = some 0x00000282 := by decide

/-- V6.4: the select phase fails. -/
theorem test_readId_fails :
    let s : State := busyWith 2 .rid (.answered (.rd 0x0F) (.fail .select 1))
    readAfter s 0x04 = some 0x00000204 ∧ readAfter s 0x30 = some 0x800F4201 := by decide

/-- L1.7: the Scenario's sample. -/
theorem test_sample_completes :
    let s : State := busyWith 3 .smp (.answered (.rdseq 0x06 6) (.ok scenario))
    readAfter s 0x1C = some 0x00000000 ∧ readAfter s 0x20 = some 0x000003E8 ∧ readAfter s 0x24 = some 0xFFFFFC18 ∧
    readAfter s 0x10 = some 0x00000000 ∧ readAfter s 0x14 = some 0x3FFA3E90 ∧ readAfter s 0x18 = some 0xBFFA3E90 ∧
    readAfter s 0x04 = some 0x00000342 := by decide

/-- V6.7: the data phase fails. -/
theorem test_sample_fails :
    let s : State := busyWith 3 .smp (.answered (.rdseq 0x06 6) (.fail .data 1))
    readAfter s 0x04 = some 0x00000304 ∧ readAfter s 0x30 = some 0x80068301 := by decide

/-- L3.4: DECODE 0x98 in both its steps. -/
theorem test_decode_completes :
    let s : State := { busyWith 4 .dec .none with snap := ⟨5, true, .g2, 0x98⟩ }
    readAfter s 0x2C = some 0x88003998 ∧ readAfter s 0x04 = some 0x00000402 := by decide

/-- V1: the words the machine is asked to fetch are accepted. -/
theorem test_words_accepted :
    readAfter (ti0.withFetchWord 32 0x00000001) 0x04 = some 0x00000101 ∧
    readAfter (ti0.withFetchWord 32 0x00000002) 0x04 = some 0x00000201 ∧
    readAfter (ti0.withFetchWord 32 0x00000003) 0x04 = some 0x00000301 ∧
    readAfter (ti0.withFetchWord 32 0x0000FF04) 0x04 = some 0x00000401 ∧
    readAfter (ti0.withFetchWord 32 0x00000103) 0x04 = some 0x00000010 := by decide

/-! ### Values -/

/-- V5.2: the ends of the range and an odd pair, at each divisor. -/
theorem test_conversion :
    conv (BitVec.ofInt 16 1) 0x43FFC000 = 0x3B002008 ∧ conv (BitVec.ofInt 16 511) 0x437FC000 = 0x3FFFBFF0 ∧
    conv (BitVec.ofInt 16 2047) 0x42FFC000 = 0x41801004 ∧ conv (BitVec.ofInt 16 32767) 0x42FFC000 = 0x43801F08 ∧
    conv (BitVec.ofInt 16 (-32768)) 0x42FFC000 = 0xC3802008 ∧ conv (BitVec.ofInt 16 (-1023)) 0x437FC000 = 0xC0800000 := by
  decide

/-- IEEE 754 division (assumption 18): past the finite values, and a zero by a negative divisor. -/
theorem test_conversion_ends :
    conv (BitVec.ofInt 16 (-1)) 0x00000001 = 0xFF800000 ∧ conv (BitVec.ofInt 16 1) 0x00400000 = 0x7F000000 ∧
    conv 0 0xC3FFC000 = 0x80000000 := by decide

/-- V7: bytes that tell the fields apart. -/
theorem test_decodeCtrl1 :
    decodeCtrl1 0x00 = 0x88200000 ∧ decodeCtrl1 0x58 = 0x8C003A58 ∧ decodeCtrl1 0x07 = 0x8821C007 ∧
    decodeCtrl1 0xD0 = 0x8C8013D0 ∧ decodeCtrl1 0x35 = 0x88815435 ∧ decodeCtrl1 0xFF = 0x8C01FFFF := by decide

/-- V3: CFG writes, reserved codes kept out. -/
theorem test_cfg_written :
    let c0 : Cfg := ti0.cfg
    (c0.written 0x000000FF).word = 0x0000000D ∧ (c0.written 0x00000017).word = 0x00000015 ∧
    ((c0.written 0x0000002E).written 0x0000000F).word = 0x0000000E ∧ (c0.written 0x00000030).word = 0x00000000 ∧
    ctrl1Enc .ti (c0.written 0x0000002E) = 0x0006D050 := by decide

/-- V8: the W1C bits, and the read-only bits of the written value. -/
theorem test_status_written :
    let t : Status := ⟨false, true, false, false, true, true, true, true, 3⟩
    (t.written 0x00000002).word = 0x000003F0 ∧ (t.written 0x000000F6).word = 0x000003C0 := by decide

/-- V9: both ends of the two ROMs under TI. -/
theorem test_roms :
    hostRead ti0 .w32 0x40 = 0x8000010F ∧ hostRead ti0 .w32 0x68 = 0x80050509 ∧ hostRead ti0 .w32 0x70 = 0x8006050B ∧
    hostRead ti0 .w32 0x80 = 0x18204080 ∧ hostRead ti0 .w32 0x84 = 0x35100800 ∧ hostRead ti0 .w32 0x88 = 0x03020100 ∧
    hostRead ti0 .w32 0x8C = 0x00060504 ∧ hostRead ti0 .w32 0x90 = 0 ∧ hostRead ti0 .w32 0x05 = 0 := by decide

/-- 30_encoding.md R160: the pseudo-instructions. -/
theorem test_pseudo :
    execProgram (.decode 0xC0) = [.write .w32 0x00 0x0000C004, .poll 0x04 0x00000001 0x00000000] ∧
    setCfgProgram 3 0 2 = [.write .w32 0x08 0x00000023] := by decide

/-! ### States that meet the invariant -/

/-- The agents' own fields are no part of the invariant. -/
theorem inv_agents {s : State} (h : Inv s) (prog : List HostOp) (turns : List Turn) :
    Inv { s with prog := prog, turns := turns } := by
  cases h
  constructor <;> assumption

/-- A SAMPLE whose request waits for the Transport. -/
def sampling : State :=
  { busyWith 3 .smp (.issued (.rdseq 0x06 6)) with trace := [.req (.rdseq 0x06 6)] }

theorem inv_sampling : Inv sampling where
  busy_iff := by decide
  lastop_running := by rintro i h; cases h; decide
  lastop_legal := by decide
  running_clear := by decide
  done_or_err := by decide
  err_recorded := by decide
  done_unrecorded := by decide
  errinfo_zero := by decide
  errinfo_last := by decide
  ephase_legal := by decide
  pend_fits := (rfl : requestOf sampling = some _)
  configuring_standby := by decide
  image_fits := trivial
  active_image := by decide
  latch_default := by decide
  sampling_invalid := by decide
  reading_invalid := by decide
  id_byte := by decide
  dec_decoded := by decide
  rawx_signed := by decide
  rawy_signed := by decide
  rawz_signed := by decide
  params_wf := by decide

/-- The same SAMPLE with its six bytes there. -/
def sampled : State :=
  { busyWith 3 .smp (.answered (.rdseq 0x06 6) (.ok scenario)) with
    trace := [.req (.rdseq 0x06 6), .resp (.ok scenario)] }

theorem inv_sampled : Inv sampled where
  busy_iff := by decide
  lastop_running := by rintro i h; cases h; decide
  lastop_legal := by decide
  running_clear := by decide
  done_or_err := by decide
  err_recorded := by decide
  done_unrecorded := by decide
  errinfo_zero := by decide
  errinfo_last := by decide
  ephase_legal := by decide
  pend_fits := (⟨rfl, rfl⟩ : requestOf sampled = some _ ∧ respFits _ _ = true)
  configuring_standby := by decide
  image_fits := trivial
  active_image := by decide
  latch_default := by decide
  sampling_invalid := by decide
  reading_invalid := by decide
  id_byte := by decide
  dec_decoded := by decide
  rawx_signed := by decide
  rawy_signed := by decide
  rawz_signed := by decide
  params_wf := by decide

/-! ### A witness for every statement with hypotheses -/

theorem witness_IllegalWordsSetIll :
    let s : State := hostNext (.write .w32 0x00 0x00000103)
    s.turns = .host :: [] ∧ s.prog = .write .w32 0x00 0x00000103 :: [] ∧ s.status.busy = false ∧
    decodeWord 0x00000103 = .illegal .immediateNonzero := by decide

theorem witness_StepRunsTheDecodedCommand :
    (let s : State := hostNext (.write .w32 0x00 0x0000FF04)
     s.turns = .host :: [] ∧ s.prog = .write .w32 0x00 0x0000FF04 :: [] ∧
     decodeWord 0x0000FF04 = .cmd (.decode 0xFF)) ∧
    (let s : State := busyWith 3 .smp .none
     s.turns = .sequencer :: [] ∧ running s = some .sample) ∧
    decodeWord (BitVec.ofNat 32 (0x00000001 % 2 ^ 32)) = .cmd .configure := by decide

/-- Busy; idle with an illegal word; idle with each command. -/
theorem witness_CommandWriteHandled :
    (let s : State := { busyWith 4 .dec .none with prog := [.write .w32 0x00 0x00000003], turns := [.host] }
     s.turns = .host :: [] ∧ s.prog = .write .w32 0x00 0x00000003 :: [] ∧ s.status.busy = true) ∧
    (let s : State := hostNext (.write .w32 0x00 0x00000005)
     s.turns = .host :: [] ∧ s.prog = .write .w32 0x00 0x00000005 :: [] ∧ s.status.busy = false ∧
     decodeWord 0x00000005 = .illegal .reservedOpcode) ∧
    (∀ w : Word,
      let s : State := hostNext (.write .w32 0x00 w)
      s.turns = .host :: [] ∧ s.prog = .write .w32 0x00 w :: [] ∧ s.status.busy = false) ∧
    (decodeWord 1 = .cmd .configure ∧ decodeWord 2 = .cmd .readId ∧ decodeWord 3 = .cmd .sample ∧
      decodeWord 0x0000FF04 = .cmd (.decode 0xFF)) :=
  ⟨by decide, by decide, fun _ => ⟨rfl, rfl, rfl⟩, by decide⟩

theorem witness_CommandsAreAccepted : ti0.mover = .host ∧ ti0.status.busy = false := by decide

theorem witness_SampleAcceptanceEffects :
    (ti0.mover = .host ∧ ti0.status.busy = false) ∧
    ∃ t, Inv sampling ∧ sampling.seq = .smp ∧ step sampling = .next t ∧ ¬Resets sampling ∧
      ¬ConsumesOk sampling .smp := by
  refine ⟨by decide, _, inv_sampling, rfl, rfl, by unfold Resets; decide, ?_⟩
  rintro ⟨_, _, req, bytes, h⟩
  cases h

theorem witness_BusyDropsEveryCommand :
    let s : State := { busyWith 3 .smp .none with mover := .host }
    s.mover = .host ∧ s.status.busy = true := by decide

theorem witness_IssueStepSendsTheRequest :
    ∀ q ∈ [Seq.cfg1, .cfg2, .cfg3, .rid, .smp],
      let s : State := busyWith 1 q .none
      s.mover = .sequencer ∧ s.pend = .none ∧ s.seq = q := by decide

theorem witness_OnlyTheFiveRequests :
    ∃ t, step (busyWith 3 .smp .none) = .next t ∧
      t.trace = (busyWith 3 .smp .none).trace ++ [.req (.rdseq 0x06 6)] := ⟨_, rfl, by decide⟩

theorem witness_ConfigureGoesOnAfterOk :
    ∀ q ∈ [Seq.cfg1, .cfg2],
      let s : State := busyWith 1 q (.answered (.wr 0x1B 0x40) (.ok []))
      s.mover = .sequencer ∧ s.pend = .answered (.wr 0x1B 0x40) (.ok []) ∧ s.seq = q := by decide

/-- The third OK, which writes LATCH and sets ACTIVE. -/
theorem witness_ConfigureCompletes :
    let s : State := busyWith 1 .cfg3 (.answered (.wr 0x1B 0xC0) (.ok []))
    (s.mover = .sequencer ∧ s.seq = .cfg3 ∧ s.pend = .answered (.wr 0x1B 0xC0) (.ok [])) ∧
    ∃ t, step s = .next t ∧ t.latch ≠ s.latch ∧ s.status.active = false ∧ t.status.active = true :=
  ⟨by decide, _, rfl, by decide⟩

theorem witness_ConfigureFailsAtItsWrite :
    ∀ q ∈ [Seq.cfg1, .cfg2, .cfg3],
      let s : State := busyWith 1 q (.answered (.wr 0x1B 0x40) (.fail .write 2))
      s.mover = .sequencer ∧ s.pend = .answered (.wr 0x1B 0x40) (.fail .write 2) ∧ s.seq = q := by decide

theorem witness_ReadIdCompletes :
    let s : State := busyWith 2 .rid (.answered (.rd 0x0F) (.ok [0x35]))
    s.mover = .sequencer ∧ s.seq = .rid ∧ s.pend = .answered (.rd 0x0F) (.ok [0x35]) := by decide

theorem witness_ReadIdFails :
    let s : State := busyWith 2 .rid (.answered (.rd 0x0F) (.fail .data 7))
    s.mover = .sequencer ∧ s.seq = .rid ∧ s.pend = .answered (.rd 0x0F) (.fail .data 7) := by decide

theorem witness_SampleCompletes :
    sampled.mover = .sequencer ∧ sampled.seq = .smp ∧
    sampled.pend = .answered (.rdseq 0x06 6) (.ok [0x00, 0x00, 0xE8, 0x03, 0x18, 0xFC]) := by decide

theorem witness_SampleFails :
    let s : State := busyWith 3 .smp (.answered (.rdseq 0x06 6) (.fail .select 7))
    s.mover = .sequencer ∧ s.seq = .smp ∧ s.pend = .answered (.rdseq 0x06 6) (.fail .select 7) := by decide

theorem witness_DecodeCompletes :
    let s : State := busyWith 4 .dec .none
    s.mover = .sequencer ∧ s.seq = .dec := by decide

theorem witness_StatusWriteClears :
    let s : State := hostNext (.write .w32 0x04 0x00000036)
    s.turns = .host :: [] ∧ s.prog = .write .w32 0x04 0x00000036 :: [] := by decide

/-- The written value, and each clause at the edge of its range: ODR 6 and 7, GSEL 2 and 3. -/
theorem witness_CfgWriteKeepsLegalCodes :
    (∀ v : Word,
      let s : State := hostNext (.write .w32 0x08 v)
      s.turns = .host :: [] ∧ s.prog = .write .w32 0x08 v :: []) ∧
    (0x26#32).extractLsb' 0 3 ≠ 7 ∧ (0x26#32).extractLsb' 4 2 ≠ 3 ∧
    (0x37#32).extractLsb' 0 3 = 7 ∧ (0x37#32).extractLsb' 4 2 = 3 := ⟨fun _ => ⟨rfl, rfl⟩, by decide⟩

/-- Narrower and wider widths, an alignment, the first offset past CFG; for reads also CMD, 0x3C and both ends of the
reserved range and the first offset past the window. -/
theorem witness_UndefinedAccessesDoNothing :
    (∀ (width : Width) (off : Word),
      let s : State := hostNext (.write width off 5)
      s.turns = .host :: [] ∧ s.prog = .write width off 5 :: []) ∧
    Width.w16 ≠ .w32 ∧ Width.other ≠ .w32 ∧ (0x05#32).toNat % 4 ≠ 0 ∧ (0x0C#32).toNat ∉ [0x00, 0x04, 0x08] ∧
    (0xFC#32).toNat ∉ [0x00, 0x04, 0x08] ∧ (0x100#32).toNat ∉ [0x00, 0x04, 0x08] ∧
    (0x00#32).toNat = 0x00 ∧ (0x3C#32).toNat = 0x3C ∧ 0x90 ≤ (0x90#32).toNat ∧ 0x90 ≤ (0xFC#32).toNat ∧
    0x90 ≤ (0x100#32).toNat := ⟨fun _ _ => ⟨rfl, rfl⟩, by decide⟩

/-- A read, a POLL that passes and one that does not. -/
theorem witness_ReadsChangeNothing :
    (let s : State := hostNext (.read .w32 0x04)
     s.turns = .host :: [] ∧ s.prog = .read .w32 0x04 :: []) ∧
    (let s : State := hostNext (.poll 0x04 1 0)
     s.turns = .host :: [] ∧ s.prog = .poll 0x04 1 0 :: [] ∧ hostRead s .w32 0x04 &&& 1 = 0) ∧
    (let s : State := hostNext (.poll 0x04 1 1)
     s.turns = .host :: [] ∧ s.prog = .poll 0x04 1 1 :: [] ∧ hostRead s .w32 0x04 &&& 1 ≠ 1) := by decide

theorem witness_RomsNeverChange :
    (∃ t, step sampled = .next t) ∧ 0x40 ≤ (0x40#32).toNat ∧ (0x8F#32).toNat < 0x90 := ⟨⟨_, rfl⟩, by decide⟩

theorem witness_SentAddressesAreMapped :
    requestOf (busyWith 1 .cfg1 .none) = some (.wr 0x21 0x05) ∧ requestOf (busyWith 1 .cfg2 .none) = some (.wr 0x1B 0x40) ∧
    requestOf (busyWith 1 .cfg3 .none) = some (.wr 0x1B 0xC0) ∧ requestOf (busyWith 2 .rid .none) = some (.rd 0x0F) ∧
    requestOf (busyWith 3 .smp .none) = some (.rdseq 0x06 6) := by decide

/-- A fitting answer; an answer with nothing waiting. -/
theorem witness_TransportAnswers :
    (let s : State := { sampling with turns := [.transport (.ok scenario)] }
     s.turns = .transport (.ok scenario) :: [] ∧ s.pend = .issued (.rdseq 0x06 6) ∧
     respFits (.rdseq 0x06 6) (.ok scenario) = true) ∧
    (let s : State := { ti0 with turns := [.transport (.ok scenario)] }
     s.turns = .transport (.ok scenario) :: [] ∧ ∀ req, s.pend = .issued req → respFits req (.ok scenario) = false) := by
  refine ⟨by decide, rfl, ?_⟩
  intro req h
  cases h

theorem witness_UnansweredRequestStaysPending :
    ∃ t, Inv sampling ∧ sampling.pend = .issued (.rdseq 0x06 6) ∧ step sampling = .next t ∧ ¬Resets sampling ∧
      ∀ resp, sampling.turns.head? ≠ some (.transport resp) := by
  refine ⟨_, inv_sampling, rfl, rfl, by unfold Resets; decide, ?_⟩
  intro resp h
  cases h

theorem witness_ResetHoldsTheSpecValues : 0x40 ≤ (0x40#32).toNat ∧ (0x8F#32).toNat < 0x90 := by decide

theorem witness_ResetIsOneStep :
    let s : State := { sampling with turns := [.reset] }
    s.turns = .reset :: [] := by decide

/-- The default, and five words all different. -/
theorem witness_DivisorValues :
    Params.ti.convDiv = .standard ∧
    (let p : Params := { Params.ti with convDiv := ⟨1, 2, 3, 4, 5⟩ }
     p.convDiv = ⟨1, 2, 3, 4, 5⟩) := by decide

/-- The pinned divisor 511.5 as a rational. -/
theorem f32Value_511 : f32Value 0x43FFC000 = some (1023 / 2) := by
  have h : finite32 0x43FFC000 = some ⟨false, 16760832, -15⟩ := by decide
  simp only [f32Value, h, Option.map_some]
  norm_num

/-- The smallest binary32 value above 0, as a rational. -/
theorem f32Value_one : f32Value 0x00000001 = some ((2 : ℚ) ^ (-149 : ℤ)) := by
  have h : finite32 0x00000001 = some ⟨false, 1, -149⟩ := by decide
  simp only [f32Value, h, Option.map_some]
  norm_num

/-- Raw 1000 by 511.5, with another binary32 value to compare with. -/
theorem witness_ConversionRoundsToNearest :
    ∃ v : ℚ, f32Value 0x43FFC000 = some v ∧ v ≠ 0 ∧
      |((1000 : Half).toInt : ℚ) / v| < (2 ^ 24 - 1 / 2) * 2 ^ 104 ∧
      ∃ (w : Word) (y : ℚ), f32Value w = some y ∧ y ≠ 1000 := by
  refine ⟨1023 / 2, f32Value_511, by norm_num, ?_, 0x43FFC000, 1023 / 2, f32Value_511, by norm_num⟩
  rw [show ((1000 : Half).toInt : ℚ) = 1000 by rw [show (1000 : Half).toInt = 1000 by decide]; norm_num, abs_of_pos (by norm_num)]
  norm_num

/-- Its overflow case: raw 32767 by the smallest divisor. -/
theorem witness_ConversionRoundsToNearest_overflow :
    ∃ v : ℚ, f32Value 0x00000001 = some v ∧ v ≠ 0 ∧
      (2 ^ 24 - 1 / 2) * 2 ^ 104 ≤ |((32767 : Half).toInt : ℚ) / v| := by
  refine ⟨_, f32Value_one, by norm_num, ?_⟩
  rw [show ((32767 : Half).toInt : ℚ) = 32767 by rw [show (32767 : Half).toInt = 32767 by decide]; norm_num, abs_of_pos (by positivity)]
  norm_num

/-- Its zero case: raw 0 by 511.5. -/
theorem witness_ConversionRoundsToNearest_zero :
    ∃ v : ℚ, f32Value 0x43FFC000 = some v ∧ v ≠ 0 ∧ (0 : Half) = 0 :=
  ⟨1023 / 2, f32Value_511, by norm_num, rfl⟩

theorem witness_ConversionIsNormalOrZero :
    Params.ti.convDiv = .standard ∧ (0 : Half) = 0 ∧ (0x8000 : Half) ≠ 0 := by decide

theorem witness_ConversionIsOdd :
    ∃ v : ℚ, f32Value 0x43FFC000 = some v ∧ v ≠ 0 ∧ (1000 : Half) ≠ 0 ∧ (1000 : Half) ≠ 0x8000 :=
  ⟨1023 / 2, f32Value_511, by norm_num, by decide, by decide⟩

theorem witness_ConversionExactPoints : Params.ti.convDiv = .standard := by decide

/-- The Host's step, an issue and another Sequencer step of CONFIGURE. -/
theorem witness_ConfigureFrame :
    (∃ t, exec .configure ti0 = .next t ∧ ti0.mover = .host) ∧
    (∃ t, exec .configure (busyWith 1 .cfg1 .none) = .next t ∧ (busyWith 1 .cfg1 .none).mover = .sequencer) ∧
    (∃ t, exec .configure (busyWith 1 .cfg1 (.answered (.wr 0x21 5) (.ok []))) = .next t) :=
  ⟨⟨_, rfl, rfl⟩, ⟨_, rfl, rfl⟩, ⟨_, rfl⟩⟩

theorem witness_ReadIdFrame :
    (∃ t, exec .readId ti0 = .next t ∧ ti0.mover = .host) ∧
    (∃ t, exec .readId (busyWith 2 .rid .none) = .next t ∧ (busyWith 2 .rid .none).mover = .sequencer) :=
  ⟨⟨_, rfl, rfl⟩, ⟨_, rfl, rfl⟩⟩

theorem witness_SampleFrame :
    (∃ t, exec .sample ti0 = .next t ∧ ti0.mover = .host) ∧
    (∃ t, exec .sample sampled = .next t ∧ sampled.mover = .sequencer) := ⟨⟨_, rfl, rfl⟩, ⟨_, rfl, rfl⟩⟩

theorem witness_DecodeFrame :
    (∃ t, exec (.decode 0x98) ti0 = .next t ∧ ti0.mover = .host) ∧
    (∃ t, exec (.decode 0x98) (busyWith 4 .dec .none) = .next t ∧ (busyWith 4 .dec .none).mover = .sequencer) :=
  ⟨⟨_, rfl, rfl⟩, ⟨_, rfl, rfl⟩⟩

theorem witness_StepKeepsInvariant : ∃ t, Inv sampled ∧ step sampled = .next t := ⟨_, inv_sampled, rfl⟩

theorem witness_BusyExactlyWhileRunning :
    ∃ t, (sampled.status.busy = true ↔ sampled.seq ≠ .idle) ∧ step sampled = .next t := ⟨_, inv_sampled.busy_iff, rfl⟩

theorem witness_StepKeepsBusProtocol :
    ∃ t, Inv sampled ∧ TraceFollowsProtocol sampled ∧ step sampled = .next t := by
  refine ⟨_, inv_sampled, ?_, rfl⟩
  unfold TraceFollowsProtocol
  decide

/-- Each register differs after some step. -/
theorem witness_WritersOfEachRegister :
    (∃ t, step sampled = .next t ∧ t.status ≠ sampled.status ∧ t.rawy ≠ sampled.rawy ∧ t.sy ≠ sampled.sy) ∧
    (let s : State := hostNext (.write .w32 0x08 0)
     ∃ t, step s = .next t ∧ t.cfg ≠ s.cfg) ∧
    (let s : State := busyWith 2 .rid (.answered (.rd 0x0F) (.ok [0x35]))
     ∃ t, step s = .next t ∧ t.id ≠ s.id) ∧
    (let s : State := busyWith 1 .cfg2 (.answered (.wr 0x1B 0x40) (.ok []))
     ∃ t, step s = .next t ∧ t.ctrl1Img ≠ s.ctrl1Img) ∧
    (let s : State := busyWith 4 .dec .none
     ∃ t, step s = .next t ∧ t.dec ≠ s.dec) ∧
    (let s : State := busyWith 2 .rid (.answered (.rd 0x0F) (.fail .data 7))
     ∃ t, step s = .next t ∧ t.errinfo ≠ s.errinfo) ∧
    (let s : State := busyWith 1 .cfg3 (.answered (.wr 0x1B 0xC0) (.ok []))
     ∃ t, step s = .next t ∧ t.latch ≠ s.latch) :=
  ⟨⟨_, rfl, by decide⟩, ⟨_, rfl, by decide⟩, ⟨_, rfl, by decide⟩, ⟨_, rfl, by decide⟩, ⟨_, rfl, by decide⟩,
    ⟨_, rfl, by decide⟩, ⟨_, rfl, by decide⟩⟩

/-- A step that writes snap, and a Sequencer step. -/
theorem witness_RunningCommandIgnoresCfg :
    (let s : State := hostNext (.write .w32 0x00 0x0000FF04)
     ∃ t, step s = .next t ∧ t.snap ≠ s.snap) ∧
    (∃ t, sampled.mover = .sequencer ∧ exec .sample sampled = .next t) := ⟨⟨_, rfl, by decide⟩, ⟨_, rfl, rfl⟩⟩

theorem witness_ResultsChangeOnlyAtCompletion :
    ∃ t, Inv sampled ∧ step sampled = .next t ∧ ¬Resets sampled ∧ t.rawy ≠ sampled.rawy :=
  ⟨_, inv_sampled, rfl, by unfold Resets; decide, by decide⟩

/-- A Sequencer step and a Transport step of a running command. -/
theorem witness_CommandsMakeProgress :
    (∃ t, Inv sampled ∧ step sampled = .next t ∧ sampled.status.busy = true ∧ ¬Resets sampled ∧
      sampled.turns.head? = some .sequencer ∧ ∀ req, sampled.pend ≠ .issued req) ∧
    (let s : State := { sampling with prog := [], turns := [.transport (.ok scenario)] }
     ∃ t, Inv s ∧ step s = .next t ∧ s.pend = .issued (.rdseq 0x06 6) ∧
       respFits (.rdseq 0x06 6) (.ok scenario) = true ∧ s.turns.head? = some (.transport (.ok scenario))) := by
  refine ⟨⟨_, inv_sampled, rfl, rfl, by unfold Resets; decide, rfl, ?_⟩, _, inv_agents inv_sampling _ _, rfl, rfl, rfl, rfl⟩
  intro req h
  cases h

theorem witness_ConfigureRunsToDone :
    let turns : List Turn :=
      [.host, .sequencer, .transport (.ok []), .sequencer, .sequencer, .transport (.ok []), .sequencer, .sequencer,
        .transport (.ok []), .sequencer]
    let s : State := { ti0 with prog := [.write .w32 0x00 0x00000001], turns := turns }
    s.status.busy = false ∧ s.seq = .idle ∧ s.pend = .none ∧ s.prog = .write .w32 0x00 0x00000001 :: [] ∧
    s.turns = turns ++ [] := by decide

theorem witness_SampleRunsToDone :
    let turns : List Turn := [.host, .sequencer, .transport (.ok scenario), .sequencer]
    let s : State := { ti0 with prog := [.write .w32 0x00 0x00000003], turns := turns }
    s.status.busy = false ∧ s.seq = .idle ∧ s.pend = .none ∧ s.prog = .write .w32 0x00 0x00000003 :: [] ∧
    s.turns = [.host, .sequencer, .transport (.ok [0x00, 0x00, 0xE8, 0x03, 0x18, 0xFC]), .sequencer] ++ [] := by decide

theorem witness_ReadIdAndDecodeRunToDone :
    (let turns : List Turn := [.host, .sequencer, .transport (.ok [0x35]), .sequencer]
     let s : State := { ti0 with prog := [.write .w32 0x00 0x00000002], turns := turns }
     s.status.busy = false ∧ s.seq = .idle ∧ s.pend = .none ∧ s.prog = .write .w32 0x00 0x00000002 :: [] ∧
     s.turns = turns ++ []) ∧
    (let s : State := { ti0 with prog := [.write .w32 0x00 0x00009804], turns := [.host, .sequencer] }
     s.status.busy = false ∧ s.seq = .idle ∧ s.prog = .write .w32 0x00 (0#16 ++ (0x98 : Byte) ++ 0x04#8) :: [] ∧
     s.turns = [.host, .sequencer] ++ []) := by decide

end Sys2Proof.Tests
end

section
/-! PROOFS. The state family (10_state.md): which rules write each register (R57), a host write to STATUS (R43) and a host
write to CFG (R45). -/

namespace Sys2Proof.Machine

section
variable {s u t : State}

/-! ### The writers of each register, read off the events a step can be (10_state.md R57)

In each proof the events that write the register are named, and every other event leaves it as it was by definition. -/

/-- A failing response consumed in a state that waits on the bus is a failed completion (60_exceptions.md R275). -/
theorem ConsumesFail.failsCommand {q : Seq} (h : ConsumesFail s q) (hi : q ≠ .idle) (hd : q ≠ .dec) :
    FailsCommand s := by
  cases q with
  | idle => exact absurd rfl hi
  | dec => exact absurd rfl hd
  | _ => simp only [FailsCommand, h, true_or, or_true]

theorem StepEffect.status_writers (e : StepEffect s u t) (hne : t.status ≠ u.status) :
    Resets s ∨ (∃ v, HostWrites s 0x04 v) ∨ (∃ w, HostWrites s 0x00 w) ∨ ConsumesOk s .cfg3 ∨
      ConsumesOk s .rid ∨ ConsumesOk s .smp ∨ CompletesDecode s ∨ FailsCommand s := by
  have cmd {i : Instr} : Accepts s i → ∃ w, HostWrites s 0x00 w := fun ⟨w, hw, _⟩ => ⟨w, hw⟩
  cases e with
  | reset h => exact .inl h
  | statusWritten v h => exact .inr (.inl ⟨v, h⟩)
  | dropped w h | illegal w h => exact .inr (.inr (.inl ⟨w, h⟩))
  | acceptConfigure h | acceptReadId h | acceptSample h | acceptDecode _ h => exact .inr (.inr (.inl (cmd h)))
  | cfg3Ok req h hq hp => exact .inr (.inr (.inr (.inl ⟨h, hq, req, _, hp⟩)))
  | ridOk req b h hq hp => exact .inr (.inr (.inr (.inr (.inl ⟨h, hq, req, _, hp⟩))))
  | smpOk req b0 b1 b2 b3 b4 b5 h hq hp => exact .inr (.inr (.inr (.inr (.inr (.inl ⟨h, hq, req, _, hp⟩)))))
  | decoded h => exact .inr (.inr (.inr (.inr (.inr (.inr (.inl h))))))
  | cfg1Fail req p c h hq hp | cfg2Fail req p c h hq hp | cfg3Fail req p c h hq hp | ridFail req p c h hq hp
  | smpFail req p c h hq hp =>
    have hf : FailsCommand s := ConsumesFail.failsCommand ⟨h, hq, req, p, c, hp⟩ (by decide) (by decide)
    exact .inr (.inr (.inr (.inr (.inr (.inr (.inr hf))))))
  | _ => exact absurd rfl hne

theorem StepEffect.cfg_writers (e : StepEffect s u t) (hne : t.cfg ≠ u.cfg) :
    Resets s ∨ ∃ v, HostWrites s 0x08 v := by
  cases e with
  | reset h => exact .inl h
  | cfgWritten v h => exact .inr ⟨v, h⟩
  | _ => exact absurd rfl hne

theorem StepEffect.id_writers (e : StepEffect s u t) (hne : t.id ≠ u.id) : Resets s ∨ ConsumesOk s .rid := by
  cases e with
  | reset h => exact .inl h
  | ridOk req b h hq hp => exact .inr ⟨h, hq, req, _, hp⟩
  | _ => exact absurd rfl hne

theorem StepEffect.sample_writers (e : StepEffect s u t)
    (hne : t.sx ≠ u.sx ∨ t.sy ≠ u.sy ∨ t.sz ≠ u.sz ∨ t.rawx ≠ u.rawx ∨ t.rawy ≠ u.rawy ∨ t.rawz ≠ u.rawz) :
    Resets s ∨ ConsumesOk s .smp := by
  cases e with
  | reset h => exact .inl h
  | smpOk req b0 b1 b2 b3 b4 b5 h hq hp => exact .inr ⟨h, hq, req, _, hp⟩
  | _ => rcases hne with hne | hne | hne | hne | hne | hne <;> exact absurd rfl hne

theorem StepEffect.ctrl1Img_writers (e : StepEffect s u t) (hne : t.ctrl1Img ≠ u.ctrl1Img) :
    Resets s ∨ Accepts s .configure ∨ ConsumesOk s .cfg2 ∨ ConsumesFail s .cfg2 ∨ ConsumesFail s .cfg3 ∨
      ConsumesOk s .cfg3 := by
  cases e with
  | reset h => exact .inl h
  | acceptConfigure h => exact .inr (.inl h)
  | cfg2Ok req h hq hp => exact .inr (.inr (.inl ⟨h, hq, req, _, hp⟩))
  | cfg2Fail req p c h hq hp => exact .inr (.inr (.inr (.inl ⟨h, hq, req, p, c, hp⟩)))
  | cfg3Fail req p c h hq hp => exact .inr (.inr (.inr (.inr (.inl ⟨h, hq, req, p, c, hp⟩))))
  | cfg3Ok req h hq hp => exact .inr (.inr (.inr (.inr (.inr ⟨h, hq, req, _, hp⟩))))
  | _ => exact absurd rfl hne

theorem StepEffect.dec_writers (e : StepEffect s u t) (hne : t.dec ≠ u.dec) : Resets s ∨ CompletesDecode s := by
  cases e with
  | reset h => exact .inl h
  | decoded h => exact .inr h
  | _ => exact absurd rfl hne

theorem StepEffect.errinfo_writers (e : StepEffect s u t) (hne : t.errinfo ≠ u.errinfo) :
    Resets s ∨ (∃ i, Accepts s i) ∨ FailsCommand s := by
  cases e with
  | reset h => exact .inl h
  | acceptConfigure h | acceptReadId h | acceptSample h | acceptDecode _ h => exact .inr (.inl ⟨_, h⟩)
  | cfg1Fail req p c h hq hp | cfg2Fail req p c h hq hp | cfg3Fail req p c h hq hp | ridFail req p c h hq hp
  | smpFail req p c h hq hp =>
    exact .inr (.inr (ConsumesFail.failsCommand ⟨h, hq, req, p, c, hp⟩ (by decide) (by decide)))
  | _ => exact absurd rfl hne

theorem StepEffect.latch_writers (e : StepEffect s u t) (hne : t.latch ≠ u.latch) :
    Resets s ∨ ConsumesOk s .cfg3 := by
  cases e with
  | reset h => exact .inl h
  | cfg3Ok req h hq hp => exact .inr ⟨h, hq, req, _, hp⟩
  | _ => exact absurd rfl hne

/-! ### A host write -/

/-- The step of a host write is that write, on the state whose schedule and program have moved on. -/
theorem step_hostWrite {width : Width} {off v : Word} {rest : List Turn} {more : List HostOp}
    (ht : s.turns = .host :: rest) (hp : s.prog = .write width off v :: more) :
    step s = hostWrite width off v { s with turns := rest, prog := more } := by
  simp only [step, ht, stepTurn, hostTurn, hp]

@[simp] theorem hostWrite_status (v : Word) (s : State) : hostWrite .w32 0x04 v s = .next (statusWrite v s) := rfl

@[simp] theorem hostWrite_cfg (v : Word) (s : State) : hostWrite .w32 0x08 v s = .next (cfgWrite v s) := rfl

/-! ### Write-one-to-clear (10_state.md R43) -/

/-- A written 1 clears its flag, a written 0 keeps it. -/
theorem Status.written_eq (x : Status) (v : Word) :
    x.written v =
      { x with
        done := if v.getLsbD 1 = true then false else x.done
        err  := if v.getLsbD 2 = true then false else x.err
        ill  := if v.getLsbD 4 = true then false else x.ill
        drop := if v.getLsbD 5 = true then false else x.drop } := by
  simp only [Status.written, Bool.if_false_left, Bool.decide_eq_true, Bool.and_comm]

/-! ### The fields of CFG (10_state.md R45) -/

theorem odrOfBits_seven : odrOfBits 7 = none := by decide

/-- A code that is not reserved selects the index with that code (30_encoding.md R135). -/
theorem odrOfBits_of_ne_seven {c : BitVec 3} (h : c ≠ 7) :
    ∃ odr : Fin 7, odrOfBits c = some odr ∧ BitVec.ofNat 3 odr.val = c := by
  have hlt : c.toNat < 7 := by bv_omega
  exact ⟨⟨c.toNat, hlt⟩, dif_pos hlt, by simp⟩

theorem gselOfCode_three : GSel.ofCode 3 = none := by decide

/-- A code that is not reserved selects the range with that code (30_encoding.md R132). -/
theorem gselOfCode_of_ne_three {c : BitVec 2} (h : c ≠ 3) : ∃ g, GSel.ofCode c = some g ∧ g.code = c := by
  revert h c
  decide

theorem Cfg.written_odr_of_legal (c : Cfg) {v : Word} (h : v.extractLsb' 0 3 ≠ 7) :
    BitVec.ofNat 3 (c.written v).odr.val = v.extractLsb' 0 3 := by
  obtain ⟨odr, hodr, hcode⟩ := odrOfBits_of_ne_seven h
  rw [Cfg.written, hodr, Option.getD_some, hcode]

theorem Cfg.written_odr_of_reserved (c : Cfg) {v : Word} (h : v.extractLsb' 0 3 = 7) :
    (c.written v).odr = c.odr := by
  rw [Cfg.written, h, odrOfBits_seven, Option.getD_none]

theorem Cfg.written_gsel_of_legal (c : Cfg) {v : Word} (h : v.extractLsb' 4 2 ≠ 3) :
    (c.written v).gsel.code = v.extractLsb' 4 2 := by
  obtain ⟨g, hg, hcode⟩ := gselOfCode_of_ne_three h
  rw [Cfg.written, hg, Option.getD_some, hcode]

theorem Cfg.written_gsel_of_reserved (c : Cfg) {v : Word} (h : v.extractLsb' 4 2 = 3) :
    (c.written v).gsel = c.gsel := by
  rw [Cfg.written, h, gselOfCode_three, Option.getD_none]

end

/-! ### The obligations -/

/-- Settles O54: the step is one of the events of `StepEffect`, and each register's writers are read off these. -/
theorem writersOfEachRegister : Obligations.WritersOfEachRegister := by
  intro s t h
  obtain ⟨_, _, _, _, e⟩ := step_effect h
  exact ⟨e.status_writers, e.cfg_writers, e.id_writers, e.sample_writers, e.ctrl1Img_writers, e.dec_writers,
    e.errinfo_writers, e.latch_writers⟩

/-- Settles O24: each of the four flags is cleared by its own written bit, and the step does nothing else. -/
theorem statusWriteClears : Obligations.StatusWriteClears := by
  intro s v rest more ht hp
  rw [step_hostWrite ht hp, hostWrite_status, statusWrite, Status.written_eq]

/-- Settles O25, with the CFG that the write gives, field by field. -/
theorem cfgWriteKeepsLegalCodes : Obligations.CfgWriteKeepsLegalCodes := by
  intro s v rest more ht hp
  exact ⟨s.cfg.written v, step_hostWrite ht hp, s.cfg.written_odr_of_legal, s.cfg.written_odr_of_reserved, rfl,
    s.cfg.written_gsel_of_legal, s.cfg.written_gsel_of_reserved⟩

end Sys2Proof.Machine
end

section
/-! PROOFS. The memory family (20_memory.md): the bus requests the block issues (R88) and the well-formed responses (R90). -/

namespace Sys2Proof.Machine

section
variable {s u t : State} {r : BusReq}

/-! ### How the bus trace grows (10_state.md R64) -/

/-- A step leaves the trace alone or appends one event: the reset mark, the request of the sequencer state with the slot
free, or a well-formed response to the waiting request. -/
theorem StepEffect.trace_cases (e : StepEffect s u t) :
    t.trace = u.trace ∨
    (Resets s ∧ t.trace = u.trace ++ [.reset]) ∨
    (∃ req, s.pend = .none ∧ requestOf s = some req ∧ t.trace = u.trace ++ [.req req]) ∨
    (∃ req resp, s.pend = .issued req ∧ respFits req resp = true ∧ t.trace = u.trace ++ [.resp resp]) := by
  cases e with
  | reset h => exact .inr (.inl ⟨h, rfl⟩)
  | issued req _ hp hr => exact .inr (.inr (.inl ⟨req, hp, hr, rfl⟩))
  | answered req resp _ hp hf => exact .inr (.inr (.inr ⟨req, resp, hp, hf, rfl⟩))
  | _ => exact .inl rfl

/-- A step that appends a request appends the one of the sequencer state, and the slot was free. -/
theorem StepEffect.request_appended (e : StepEffect s u t) (ht : t.trace = u.trace ++ [.req r]) :
    s.pend = .none ∧ requestOf s = some r := by
  rcases e.trace_cases with h | ⟨_, h⟩ | ⟨req, hp, hr, h⟩ | ⟨_, _, _, _, h⟩ <;> rw [h] at ht
  · simp at ht
  · simp at ht
  · obtain rfl : req = r := by simpa using ht
    exact ⟨hp, hr⟩
  · simp at ht

/-- The requests of the sequencer states are the five of 20_memory.md R88. -/
theorem requestOf_eq_some (h : requestOf s = some r) :
    r = cfg1Req s ∨ r = cfg2Req s ∨ r = cfg3Req s ∨ r = ridReq s ∨ r = smpReq s := by
  cases hq : s.seq <;> simp only [requestOf, hq, Option.some.injEq, reduceCtorEq] at h <;> simp [h]

end

/-! ### Well-formed responses, by the kind of request (20_memory.md R90) -/

/-- A phase that is not WRITE is one of a read's two. -/
theorem phase_ne_write_iff (phase : Phase) : phase ≠ .write ↔ phase = .select ∨ phase = .data := by
  cases phase <;> decide

theorem respFits_wr_ok (a d : Byte) (bytes : List Byte) :
    respFits (.wr a d) (.ok bytes) = true ↔ bytes = [] :=
  decide_eq_true_iff.trans List.length_eq_zero_iff

theorem respFits_rd_ok (a : Byte) (bytes : List Byte) :
    respFits (.rd a) (.ok bytes) = true ↔ ∃ b, bytes = [b] :=
  decide_eq_true_iff.trans List.length_eq_one_iff

theorem respFits_rdseq_ok (a n : Byte) (bytes : List Byte) :
    respFits (.rdseq a n) (.ok bytes) = true ↔ bytes.length = n.toNat :=
  decide_eq_true_iff

theorem respFits_wr_fail (a d : Byte) (phase : Phase) (code : Byte) :
    respFits (.wr a d) (.fail phase code) = true ↔ phase = .write :=
  decide_eq_true_iff

theorem respFits_rd_fail (a : Byte) (phase : Phase) (code : Byte) :
    respFits (.rd a) (.fail phase code) = true ↔ phase = .select ∨ phase = .data :=
  decide_eq_true_iff.trans (phase_ne_write_iff phase)

theorem respFits_rdseq_fail (a n : Byte) (phase : Phase) (code : Byte) :
    respFits (.rdseq a n) (.fail phase code) = true ↔ phase = .select ∨ phase = .data :=
  decide_eq_true_iff.trans (phase_ne_write_iff phase)

/-! ### The obligations -/

/-- Settles O11: of the step's events only the issue appends a request, with the slot free, and it is the sequencer
state's. -/
theorem onlyTheFiveRequests : Obligations.OnlyTheFiveRequests := by
  intro s t r h ht
  obtain ⟨_, _, _, _, e⟩ := step_effect h
  obtain ⟨hp, hr⟩ := e.request_appended ht
  exact ⟨hp, requestOf_eq_some hr⟩

/-- Settles O34, one rule for each kind of request and of response. -/
theorem wellFormedResponses : Obligations.WellFormedResponses :=
  ⟨respFits_wr_ok, respFits_rd_ok, respFits_rdseq_ok, respFits_wr_fail, respFits_rd_fail, respFits_rdseq_fail⟩

end Sys2Proof.Machine
end

section
/-! PROOFS. The encoding family (30_encoding.md): the legal command words (R122) and the illegal ones (R124). -/

namespace Sys2Proof

section
variable {w : Word} {i j : Instr} {a b r : OpRow}

/-! ### A command word is its three fields (30_encoding.md R120) -/

theorem fields_append (w : Word) : rsvField w ++ immField w ++ opField w = w := by
  rw [rsvField, immField, opField, BitVec.extractLsb'_append_extractLsb'_eq_extractLsb' (by decide),
    BitVec.extractLsb'_append_extractLsb'_eq_extractLsb' (by decide)]
  exact BitVec.extractLsb'_eq_self

@[simp] theorem rsvField_encode (i : Instr) : rsvField (encode i) = 0 := by
  rw [rsvField, encode, BitVec.append_assoc]
  exact BitVec.extractLsb'_append_eq_left

@[simp] theorem immField_encode (i : Instr) : immField (encode i) = i.imm := by
  rw [immField, encode, BitVec.extractLsb'_append_eq_of_le (by decide)]
  exact BitVec.extractLsb'_append_eq_right

@[simp] theorem opField_encode (i : Instr) : opField (encode i) = i.opcode := BitVec.extractLsb'_append_eq_right

theorem eq_encode_of_fields (hr : rsvField w = 0) (hi : immField w = i.imm) (ho : opField w = i.opcode) :
    w = encode i := by
  rw [← fields_append w, hr, hi, ho]
  rfl

/-! ### The decoder's answers (30_encoding.md R126) -/

theorem plainCommand_eq_cmd_iff : plainCommand w i = .cmd j ↔ immField w = 0 ∧ i = j := by
  rw [plainCommand]
  split
  · next h => simp [h]
  · next h => simp only [h, false_and, reduceCtorEq]

theorem decodeWord_encode (i : Instr) : decodeWord (encode i) = .cmd i := by
  cases i <;> simp [decodeWord, plainCommand, Instr.opcode, Instr.imm]

/-- The decoder reads a command from no word but the command's own. -/
theorem eq_encode_of_decodeWord (h : decodeWord w = .cmd i) : w = encode i := by
  unfold decodeWord at h
  split_ifs at h with hr ho ho ho ho
  iterate 3
    · obtain ⟨hi, rfl⟩ := plainCommand_eq_cmd_iff.mp h
      exact eq_encode_of_fields (not_not.mp hr) hi ho
  · obtain rfl := Decoded.cmd.inj h
    exact eq_encode_of_fields (not_not.mp hr) rfl ho

theorem decodeWord_eq_cmd_iff : decodeWord w = .cmd i ↔ w = encode i :=
  ⟨eq_encode_of_decodeWord, fun h => h ▸ decodeWord_encode i⟩

/-- A word is illegal when it is no command's word. -/
theorem exists_decodeWord_illegal_iff : (∃ why, decodeWord w = .illegal why) ↔ ¬∃ i, w = encode i := by
  simp only [← decodeWord_eq_cmd_iff]
  cases decodeWord w <;> simp

/-! ### The opcode table (30_encoding.md R122) -/

theorem legalWord_encode (i : Instr) : legalWord (encode i) = true := by
  cases i with
  | configure => exact Laws.LegalWord.configure
  | readId => exact Laws.LegalWord.readId
  | sample => exact Laws.LegalWord.sample
  | decode imm => exact Laws.LegalWord.decode imm

/-- A row with a full mask matches its own pattern only. -/
theorem OpRow.eq_pattern_of_hits (hm : r.mask = 0xFFFFFFFF) (h : r.hits w = true) : w = r.pattern := by
  have h : w &&& r.mask = r.pattern := of_decide_eq_true h
  rwa [hm, show (0xFFFFFFFF : Word) = BitVec.allOnes 32 from rfl, BitVec.and_allOnes] at h

/-- DECODE's row leaves the immediate free and matches DECODE's words only. -/
theorem eq_encode_decode_of_masked (h : w &&& 0xFFFF00FF = 0x00000004) : w = encode (.decode (immField w)) := by
  have hr : rsvField w = 0 := calc
    rsvField w = rsvField w &&& rsvField 0xFFFF00FF := BitVec.and_allOnes.symm
    _ = rsvField (w &&& 0xFFFF00FF) := BitVec.extractLsb'_and.symm
    _ = 0 := congrArg rsvField h
  have ho : opField w = 0x04 := calc
    opField w = opField w &&& opField 0xFFFF00FF := BitVec.and_allOnes.symm
    _ = opField (w &&& 0xFFFF00FF) := BitVec.extractLsb'_and.symm
    _ = 0x04 := congrArg opField h
  exact eq_encode_of_fields hr rfl ho

theorem exists_eq_encode_of_hits (hr : r ∈ opcodeTable) (h : r.hits w = true) : ∃ i, w = encode i := by
  simp only [opcodeTable, List.mem_cons, List.not_mem_nil, or_false] at hr
  obtain rfl | rfl | rfl | rfl := hr
  · exact ⟨.configure, OpRow.eq_pattern_of_hits rfl h⟩
  · exact ⟨.readId, OpRow.eq_pattern_of_hits rfl h⟩
  · exact ⟨.sample, OpRow.eq_pattern_of_hits rfl h⟩
  · exact ⟨.decode _, eq_encode_decode_of_masked (of_decide_eq_true h)⟩

/-- The one row that matches a legal word. -/
theorem exists_hits_of_legalWord (h : legalWord w = true) : ∃ r ∈ opcodeTable, r.hits w = true := by
  obtain ⟨r, hr⟩ := List.length_eq_one_iff.mp (of_decide_eq_true h)
  exact ⟨r, List.mem_filter.mp (hr ▸ List.mem_singleton_self r)⟩

theorem legalWord_iff : legalWord w = true ↔ ∃ i, w = encode i := by
  constructor
  · intro h
    obtain ⟨r, hr, hits⟩ := exists_hits_of_legalWord h
    exact exists_eq_encode_of_hits hr hits
  · rintro ⟨i, rfl⟩
    exact legalWord_encode i

/-- Two rows match one word only when their patterns agree on the bits that both masks keep. -/
theorem OpRow.patterns_agree_of_hits (ha : a.hits w = true) (hb : b.hits w = true) :
    a.pattern &&& b.mask = b.pattern &&& a.mask := by
  have ha : w &&& a.mask = a.pattern := of_decide_eq_true ha
  have hb : w &&& b.mask = b.pattern := of_decide_eq_true hb
  rw [← ha, ← hb, BitVec.and_assoc, BitVec.and_assoc, BitVec.and_comm a.mask]

theorem opcodeTable_patterns_differ :
    opcodeTable.Pairwise fun a b => a.pattern &&& b.mask ≠ b.pattern &&& a.mask := by decide

/-! ### The command words, by their fields (30_encoding.md R124) -/

/-- A command's word has zero reserved bits, and the opcode of DECODE, or of another command and a zero immediate. -/
theorem exists_eq_encode_iff :
    (∃ i, w = encode i) ↔
      rsvField w = 0 ∧
        (opField w = 0x04 ∨ opField w ∈ ([0x01, 0x02, 0x03] : List Byte) ∧ immField w = 0) := by
  constructor
  · rintro ⟨i, rfl⟩
    cases i <;> simp [Instr.opcode, Instr.imm]
  · simp only [List.mem_cons, List.not_mem_nil, or_false]
    rintro ⟨hr, ho | ⟨ho | ho | ho, hi⟩⟩
    · exact ⟨.decode (immField w), eq_encode_of_fields hr rfl ho⟩
    · exact ⟨.configure, eq_encode_of_fields hr hi ho⟩
    · exact ⟨.readId, eq_encode_of_fields hr hi ho⟩
    · exact ⟨.sample, eq_encode_of_fields hr hi ho⟩

/-- The illegal words are those of R124 (a), (b), (c). -/
theorem exists_decodeWord_illegal_iff_fields :
    (∃ why, decodeWord w = .illegal why) ↔
      opField w ∉ ([0x01, 0x02, 0x03, 0x04] : List Byte) ∨ rsvField w ≠ 0 ∨
        (opField w ∈ ([0x01, 0x02, 0x03] : List Byte) ∧ immField w ≠ 0) := by
  have four : opField w = 0x04 → opField w ∉ ([0x01, 0x02, 0x03] : List Byte) := fun h => by simp [h]
  have mem : opField w ∈ ([0x01, 0x02, 0x03, 0x04] : List Byte) ↔
      opField w = 0x04 ∨ opField w ∈ ([0x01, 0x02, 0x03] : List Byte) := by
    simp only [List.mem_cons, List.not_mem_nil, or_false]
    tauto
  rw [exists_decodeWord_illegal_iff, exists_eq_encode_iff, mem]
  tauto

end

end Sys2Proof

namespace Sys2Proof.Machine

section
variable {s : State} {w : Word} {why : Illegal}

/-! ### An illegal word written to CMD while BUSY=0 -/

@[simp] theorem hostWrite_cmd (w : Word) (s : State) : hostWrite .w32 0x00 w s = cmdWrite w s := rfl

theorem cmdWrite_illegal_of_idle (hb : s.status.busy = false) (hw : decodeWord w = .illegal why) :
    cmdWrite w s = .next (illegalCommand { s with mover := .host }) := by
  simp only [cmdWrite, hw, illegalWord, hb, Bool.false_eq_true, if_false]

end

/-! ### The obligations -/

/-- Settles O3: the legal words and the decoder's are the words of the four commands, and two rows differ on a bit that
both masks keep. -/
theorem legalWordsAreTheTable : Obligations.LegalWordsAreTheTable := by
  constructor
  · intro w
    simp only [decodeWord_eq_cmd_iff, legalWord_iff]
  · intro w
    exact opcodeTable_patterns_differ.imp fun hne ⟨ha, hb⟩ => hne (OpRow.patterns_agree_of_hits ha hb)

/-- Settles O4: a word is illegal when its fields are no command's, and the CMD write of one at BUSY=0 only sets ILL. -/
theorem illegalWordsSetIll : Obligations.IllegalWordsSetIll := by
  refine ⟨fun w => exists_decodeWord_illegal_iff_fields, ?_, by decide⟩
  intro s w why rest more ht hp hb hw
  rw [step_hostWrite ht hp, hostWrite_cmd]
  exact cmdWrite_illegal_of_idle hb hw

end Sys2Proof.Machine
end

section
/-! PROOFS. The sequencer family (40_sequencer.md): a CMD write (R170), the operand snapshot (R171), and the steps of
CONFIGURE (R177 to R188) and READ_ID (R194 to R197). -/

namespace Sys2Proof.Machine

section
variable {s u t : State} {i : Instr} {w : Word} {req : BusReq} {p : Phase} {c : Byte}

/-! ### The Host presents a command (40_sequencer.md R170) -/

/-- A command's own acceptance effects (40_sequencer.md R175, R193; 41_acquisition.md R211; 42_decoder.md R240). -/
def acceptanceEffects : Instr → State → State
  | .configure => configureEffects
  | .readId    => readIdEffects
  | .sample    => sampleEffects
  | .decode _  => decodeEffects

theorem exec_host (hm : s.mover = .host) : exec i s = .next (present i (acceptanceEffects i) s) := by
  cases i with
  | configure => exact exec_configure_host hm
  | readId => exact exec_readId_host hm
  | sample => exact exec_sample_host hm
  | decode imm => exact exec_decode_host hm

theorem exec_host_of_busy (hm : s.mover = .host) (hb : s.status.busy = true) :
    exec i s = .next (droppedCommand s) := by
  rw [exec_host hm, present, if_pos hb]

theorem exec_host_of_idle (hm : s.mover = .host) (hb : s.status.busy = false) :
    exec i s = .next (acceptanceEffects i (accept i s)) := by
  rw [exec_host hm, present, if_neg (by simp [hb])]

/-- While BUSY every word written to CMD is dropped, legal or not (60_exceptions.md R278). -/
theorem cmdWrite_of_busy (hb : s.status.busy = true) :
    cmdWrite w s = .next (droppedCommand { s with mover := .host }) := by
  rcases cmdWrite_cases w s with ⟨_, _, e⟩ | ⟨i, _, e⟩ <;> rw [e]
  · rw [illegalWord, if_pos hb]
  · exact exec_host_of_busy rfl hb

theorem cmdWrite_legal_of_idle (hb : s.status.busy = false) (hw : decodeWord w = .cmd i) :
    cmdWrite w s = .next (acceptanceEffects i (accept i { s with mover := .host })) := by
  rw [cmdWrite, hw]
  exact exec_host_of_idle rfl hb

theorem extractLsb'_opcode_of_decodeWord (hw : decodeWord w = .cmd i) : w.extractLsb' 0 8 = i.opcode := by
  rw [eq_encode_of_decodeWord hw]
  exact opField_encode i

theorem extractLsb'_imm_of_decodeWord (hw : decodeWord w = .cmd i) : w.extractLsb' 8 8 = i.imm := by
  rw [eq_encode_of_decodeWord hw]
  exact immField_encode i

/-! ### The Sequencer's steps, by its state and the slot -/

/-- A command's own Sequencer step. -/
def sequencerStep : Instr → State → State
  | .configure => configureStep
  | .readId    => readIdStep
  | .sample    => sampleStep
  | .decode _  => decodeStep

theorem exec_sequencer (hm : s.mover = .sequencer) : exec i s = .next (sequencerStep i s) := by
  cases i with
  | configure => exact exec_configure_sequencer hm
  | readId => exact exec_readId_sequencer hm
  | sample => exact exec_sample_sequencer hm
  | decode imm => exact exec_decode_sequencer hm

/-- With the slot free, the running command's step sends the request of the sequencer state (40_sequencer.md R172). -/
theorem exec_issue (hm : s.mover = .sequencer) (hi : running s = some i) (hp : s.pend = .none)
    (hr : requestOf s = some req) : exec i s = .next (issue req s) := by
  rw [exec_sequencer hm]
  cases hq : s.seq <;> simp only [running, requestOf, hq, Option.some.injEq, reduceCtorEq] at hi hr <;>
    subst hi hr
  iterate 3
    · simp only [sequencerStep, configureStep, hq, hp]
  · simp only [sequencerStep, readIdStep, hq, hp]
  · simp only [sequencerStep, sampleStep, hq, hp]

theorem configureStep_cfg1_ok (hq : s.seq = .cfg1) (hp : s.pend = .answered req (.ok [])) :
    configureStep s = { consume s with seq := .cfg2 } := by
  simp only [configureStep, hq, hp]

theorem configureStep_cfg2_ok (hq : s.seq = .cfg2) (hp : s.pend = .answered req (.ok [])) :
    configureStep s = cfg2Done (consume s) := by
  simp only [configureStep, hq, hp]

theorem configureStep_cfg3_ok (hq : s.seq = .cfg3) (hp : s.pend = .answered req (.ok [])) :
    configureStep s = completeConfigure (consume s) := by
  simp only [configureStep, hq, hp]

theorem configureStep_cfg1_fail (hq : s.seq = .cfg1) (hp : s.pend = .answered req (.fail p c)) :
    configureStep s = transportFailure 1 1 p c s.params.aDataRate (consume s) := by
  simp only [configureStep, hq, hp]

theorem configureStep_cfg2_fail (hq : s.seq = .cfg2) (hp : s.pend = .answered req (.fail p c)) :
    configureStep s = transportFailure 1 2 p c s.params.aCtrl1 (forgetImage (consume s)) := by
  simp only [configureStep, hq, hp]

theorem configureStep_cfg3_fail (hq : s.seq = .cfg3) (hp : s.pend = .answered req (.fail p c)) :
    configureStep s = transportFailure 1 3 p c s.params.aCtrl1 (forgetImage (consume s)) := by
  simp only [configureStep, hq, hp]

theorem readIdStep_ok {b : Byte} (hq : s.seq = .rid) (hp : s.pend = .answered req (.ok [b])) :
    readIdStep s = completeReadId b (consume s) := by
  simp only [readIdStep, hq, hp]

theorem readIdStep_fail (hq : s.seq = .rid) (hp : s.pend = .answered req (.fail p c)) :
    readIdStep s = transportFailure 2 0 p c s.params.aWhoAmI (consume s) := by
  simp only [readIdStep, hq, hp]

/-! ### Who sets ACTIVE (40_sequencer.md R188) and who writes snap (R171) -/

theorem StepEffect.active_setter (e : StepEffect s u t) (hu : u.status.active = false)
    (ht : t.status.active = true) : ConsumesOk s .cfg3 := by
  cases e with
  | cfg3Ok req h hq hp => exact ⟨h, hq, req, _, hp⟩
  | reset | acceptConfigure => exact absurd ht Bool.false_ne_true
  | _ => exact absurd (hu.symm.trans ht) Bool.false_ne_true

theorem StepEffect.snap_writers (e : StepEffect s u t) (hne : t.snap ≠ u.snap) :
    Resets s ∨ ∃ i, Accepts s i := by
  cases e with
  | reset h => exact .inl h
  | acceptConfigure h | acceptReadId h | acceptSample h | acceptDecode _ h => exact .inr ⟨_, h⟩
  | _ => exact absurd rfl hne

/-! ### No Sequencer step reads or writes CFG (40_sequencer.md R171) -/

/-- The same state with another CFG. -/
def State.withCfg (s : State) (c : Cfg) : State := { s with cfg := c }

theorem configureStep_withCfg (s : State) (c : Cfg) :
    configureStep (s.withCfg c) = (configureStep s).withCfg c := by
  simp only [configureStep, State.withCfg]
  split <;> rfl

theorem readIdStep_withCfg (s : State) (c : Cfg) : readIdStep (s.withCfg c) = (readIdStep s).withCfg c := by
  simp only [readIdStep, State.withCfg]
  split <;> rfl

theorem sampleStep_withCfg (s : State) (c : Cfg) : sampleStep (s.withCfg c) = (sampleStep s).withCfg c := by
  simp only [sampleStep, State.withCfg]
  split <;> rfl

theorem decodeStep_withCfg (s : State) (c : Cfg) : decodeStep (s.withCfg c) = (decodeStep s).withCfg c := by
  simp only [decodeStep, State.withCfg]
  split <;> rfl

theorem sequencerStep_withCfg (i : Instr) (s : State) (c : Cfg) :
    sequencerStep i (s.withCfg c) = (sequencerStep i s).withCfg c := by
  cases i with
  | configure => exact configureStep_withCfg s c
  | readId => exact readIdStep_withCfg s c
  | sample => exact sampleStep_withCfg s c
  | decode imm => exact decodeStep_withCfg s c

theorem exec_withCfg (hm : s.mover = .sequencer) (h : exec i s = .next t) (c : Cfg) :
    exec i (s.withCfg c) = .next (t.withCfg c) := by
  rw [exec_sequencer hm] at h
  obtain rfl := Host.Outcome.next.inj h
  rw [exec_sequencer (show (s.withCfg c).mover = .sequencer from hm), sequencerStep_withCfg]

end

/-! ### The obligations -/

/-- Settles O6: the CMD write is dropped, sets ILL or is accepted, and an accepted word's fields are its command's
opcode and immediate. -/
theorem commandWriteHandled : Obligations.CommandWriteHandled := by
  intro s w rest more ht hp
  have hstep := step_hostWrite ht hp
  rw [hostWrite_cmd] at hstep
  refine ⟨fun hb => ?_, fun hb => ⟨fun why hw => ?_, fun i hw => ?_⟩⟩
  · rw [hstep]
    exact cmdWrite_of_busy hb
  · rw [hstep]
    exact cmdWrite_illegal_of_idle hb hw
  · rw [hstep, cmdWrite_legal_of_idle (s := { s with turns := rest, prog := more }) hb hw,
      extractLsb'_opcode_of_decodeWord hw, extractLsb'_imm_of_decodeWord hw]
    cases i <;> rfl

/-- Settles O13: the third OK completes CONFIGURE, and of the step's events only this one (and reset, for LATCH) writes
LATCH or sets ACTIVE. -/
theorem configureCompletes : Obligations.ConfigureCompletes := by
  refine ⟨fun s r hm hq hp => ?_, fun s t h hne => ?_, fun s t h hs ht => ?_⟩
  · rw [exec_configure_sequencer hm, configureStep_cfg3_ok hq hp]
    rfl
  · obtain ⟨_, _, _, _, e⟩ := step_effect h
    exact e.latch_writers hne
  · obtain ⟨_, _, _, _, e⟩ := step_effect h
    exact e.active_setter hs ht

/-- Settles O55: snap's writers are read off the step's events, and each command's Sequencer step commutes with a change
of CFG. -/
theorem runningCommandIgnoresCfg : Obligations.RunningCommandIgnoresCfg := by
  refine ⟨fun s t h hne => ?_, fun i s t c hm h => exec_withCfg hm h c⟩
  obtain ⟨_, _, _, _, e⟩ := step_effect h
  exact e.snap_writers hne

/-- Settles O10: each clause is the issue step of the running command with the request of its sequencer state. -/
theorem issueStepSendsTheRequest : Obligations.IssueStepSendsTheRequest := by
  intro s hm hp
  refine ⟨fun hq => ?_, fun hq => ?_, fun hq => ?_, fun hq => ?_, fun hq => ?_⟩ <;>
    exact exec_issue hm (by rw [running, hq]) hp (by rw [requestOf, hq]; rfl)

/-- Settles O12. -/
theorem configureGoesOnAfterOk : Obligations.ConfigureGoesOnAfterOk := by
  intro s r hm hp
  rw [exec_configure_sequencer hm]
  constructor
  · intro hq
    rw [configureStep_cfg1_ok hq hp]
    rfl
  · intro hq
    rw [configureStep_cfg2_ok hq hp]
    rfl

/-- Settles O14, one failing write after the other. -/
theorem configureFailsAtItsWrite : Obligations.ConfigureFailsAtItsWrite := by
  intro s r p c hm hp
  rw [exec_configure_sequencer hm]
  refine ⟨fun hq => ?_, fun hq => ?_, fun hq => ?_⟩
  · rw [configureStep_cfg1_fail hq hp]
    rfl
  · rw [configureStep_cfg2_fail hq hp]
    rfl
  · rw [configureStep_cfg3_fail hq hp]
    rfl

/-- Settles O15. -/
theorem readIdCompletes : Obligations.ReadIdCompletes := by
  intro s r b hm hq hp
  rw [exec_readId_sequencer hm, readIdStep_ok hq hp]
  rfl

/-- Settles O16. -/
theorem readIdFails : Obligations.ReadIdFails := by
  intro s r p c hm hq hp
  rw [exec_readId_sequencer hm, readIdStep_fail hq hp]
  rfl

end Sys2Proof.Machine
end

section
/-! PROOFS. The acquisition family (41_acquisition.md): SAMPLE's acceptance and what stays until its completion (R211),
its completion (R213, R215) and its failure (R216). -/

namespace Sys2Proof.Machine

section
variable {s u t : State} {req : BusReq} {p : Phase} {c : Byte}

/-! ### SAMPLE's consume step -/

theorem sampleStep_ok {b0 b1 b2 b3 b4 b5 : Byte} (hq : s.seq = .smp)
    (hp : s.pend = .answered req (.ok [b0, b1, b2, b3, b4, b5])) :
    sampleStep s = completeSample (axisValue b0 b1) (axisValue b2 b3) (axisValue b4 b5) (consume s) := by
  simp only [sampleStep, hq, hp]

theorem sampleStep_fail (hq : s.seq = .smp) (hp : s.pend = .answered req (.fail p c)) :
    sampleStep s = transportFailure 3 0 p c s.params.aXoutL (consume s) := by
  simp only [sampleStep, hq, hp]

/-! ### The previous sample (41_acquisition.md R211) -/

/-- Only a sample's arrival sets SVALID (10_state.md R40). -/
theorem StepEffect.svalid_setter (e : StepEffect s u t) (hu : u.status.svalid = false)
    (ht : t.status.svalid = true) : ConsumesOk s .smp := by
  cases e with
  | smpOk req b0 b1 b2 b3 b4 b5 h hq hp => exact ⟨h, hq, req, _, hp⟩
  | reset | acceptSample => exact absurd ht Bool.false_ne_true
  | _ => exact absurd (hu.symm.trans ht) Bool.false_ne_true

/-- The six registers change together, at their writers only. -/
theorem StepEffect.sample_kept (e : StepEffect s u t) (hr : ¬Resets s) (hc : ¬ConsumesOk s .smp) :
    t.sx = u.sx ∧ t.sy = u.sy ∧ t.sz = u.sz ∧ t.rawx = u.rawx ∧ t.rawy = u.rawy ∧ t.rawz = u.rawz := by
  have hw := mt e.sample_writers (not_or.mpr ⟨hr, hc⟩)
  simpa only [not_or, not_not] using hw

end

/-! ### The obligations -/

/-- Settles O8: acceptance is SAMPLE's effects on the accepted state, and while it runs the invariant's SVALID=0 and the
six registers stay, because only reset and the arrival of the sample write them. -/
theorem sampleAcceptanceEffects : Obligations.SampleAcceptanceEffects := by
  refine ⟨fun s hm hb => ?_, fun s t hinv hq h hr hc => ?_⟩
  · exact ⟨_, exec_host_of_idle hm hb, rfl, rfl, rfl, rfl, rfl, rfl, rfl, rfl⟩
  · obtain ⟨_, _, _, _, e⟩ := step_effect h
    have hsv : t.status.svalid = false :=
      Bool.eq_false_iff.mpr fun ht => hc (e.svalid_setter (hinv.sampling_invalid hq) ht)
    exact ⟨hsv, e.sample_kept hr hc⟩

/-- Settles O17. -/
theorem sampleCompletes : Obligations.SampleCompletes := by
  intro s r b0 b1 b2 b3 b4 b5 hm hq hp
  rw [exec_sample_sequencer hm, sampleStep_ok hq hp]
  rfl

/-- Settles O18. -/
theorem sampleFails : Obligations.SampleFails := by
  intro s r p c hm hq hp
  rw [exec_sample_sequencer hm, sampleStep_fail hq hp]
  rfl

end Sys2Proof.Machine
end

section
/-! PROOFS. The decoder family (42_decoder.md): DECODE's completion (R242) and its decoding function (R241), the encoder
and its view (R245 to R247), the two read-only memories (R252, R256) and the addresses the block sends (R254). -/

namespace Sys2Proof

/-! ### Fields of a concatenation -/

theorem getLsbD_append_of_le {n m i : ℕ} {x : BitVec n} {y : BitVec m} (h : m ≤ i) :
    (x ++ y).getLsbD i = x.getLsbD (i - m) := by
  rw [BitVec.getLsbD_append, if_neg (Nat.not_lt.mpr h)]

theorem getLsbD_append_of_lt {n m i : ℕ} {x : BitVec n} {y : BitVec m} (h : i < m) :
    (x ++ y).getLsbD i = y.getLsbD i := by
  rw [BitVec.getLsbD_append, if_pos h]

/-- A word put together from four bytes holds each at its place. -/
theorem extractLsb'_fourBytes (b3 b2 b1 b0 : Byte) :
    let w : Word := b3 ++ b2 ++ b1 ++ b0
    w.extractLsb' 24 8 = b3 ∧ w.extractLsb' 16 8 = b2 ∧ w.extractLsb' 8 8 = b1 ∧ w.extractLsb' 0 8 = b0 := by
  intro w
  refine ⟨?_, ?_, ?_, BitVec.extractLsb'_append_eq_right⟩
  · iterate 2 rw [BitVec.extractLsb'_append_eq_of_le (by decide)]
    exact BitVec.extractLsb'_append_eq_left
  · iterate 2 rw [BitVec.extractLsb'_append_eq_of_le (by decide)]
    exact BitVec.extractLsb'_append_eq_right
  · rw [BitVec.extractLsb'_append_eq_of_le (by decide)]
    exact BitVec.extractLsb'_append_eq_right

/-- No range has the reserved code (30_encoding.md R132). -/
theorem GSel.code_ne_three (g : GSel) : g.code ≠ 3 := by
  cases g <;> decide

end Sys2Proof

namespace Sys2Proof.Machine

section
variable {s : State} {b : Byte} {res power : Bool} {g : GSel}

/-! ### DECODE's step (42_decoder.md R242) -/

theorem decodeStep_dec (hq : s.seq = .dec) : decodeStep s = completeDecode s := by
  simp only [decodeStep, hq]

/-! ### The fields of a decoded byte (42_decoder.md R241)

Each is found by dropping the fields below it, as many as are iterated over, and then what stands above it. -/

theorem decodeCtrl1_pc (b : Byte) : (decodeCtrl1 b).getLsbD 8 = b.getLsbD 7 := by
  rw [decodeCtrl1, getLsbD_append_of_le (by decide), getLsbD_append_of_lt (by decide)]
  simp

theorem decodeCtrl1_res (b : Byte) : (decodeCtrl1 b).getLsbD 9 = b.getLsbD 6 := by
  rw [decodeCtrl1]
  iterate 2 rw [getLsbD_append_of_le (by decide)]
  rw [getLsbD_append_of_lt (by decide)]
  simp

theorem decodeCtrl1_ie (b : Byte) : (decodeCtrl1 b).getLsbD 10 = b.getLsbD 5 := by
  rw [decodeCtrl1]
  iterate 3 rw [getLsbD_append_of_le (by decide)]
  rw [getLsbD_append_of_lt (by decide)]
  simp

theorem decodeCtrl1_gsel (b : Byte) : (decodeCtrl1 b).extractLsb' 11 2 = b.extractLsb' 3 2 := by
  rw [decodeCtrl1]
  iterate 4 rw [BitVec.extractLsb'_append_eq_of_le (by decide)]
  exact BitVec.extractLsb'_append_eq_right

theorem decodeCtrl1_grsv (b : Byte) : (decodeCtrl1 b).getLsbD 13 = (b.extractLsb' 3 2 == 3) := by
  rw [decodeCtrl1]
  iterate 5 rw [getLsbD_append_of_le (by decide)]
  rw [getLsbD_append_of_lt (by decide)]
  split
  · next h => rw [h]; rfl
  · next h => exact (beq_eq_false_iff_ne.mpr h).symm

theorem decodeCtrl1_low3 (b : Byte) : (decodeCtrl1 b).extractLsb' 14 3 = b.extractLsb' 0 3 := by
  rw [decodeCtrl1]
  iterate 6 rw [BitVec.extractLsb'_append_eq_of_le (by decide)]
  exact BitVec.extractLsb'_append_eq_right

theorem decodeCtrl1_reserved_low (b : Byte) : (decodeCtrl1 b).extractLsb' 17 3 = 0 := by
  rw [decodeCtrl1]
  iterate 7 rw [BitVec.extractLsb'_append_eq_of_le (by decide)]
  exact BitVec.extractLsb'_append_eq_right

theorem decodeCtrl1_fsg (b : Byte) :
    (decodeCtrl1 b).extractLsb' 20 4 =
      if b.extractLsb' 3 2 = 0 then 2
      else if b.extractLsb' 3 2 = 1 then 4
      else if b.extractLsb' 3 2 = 2 then 8
      else 0 := by
  rw [decodeCtrl1]
  iterate 8 rw [BitVec.extractLsb'_append_eq_of_le (by decide)]
  exact BitVec.extractLsb'_append_eq_right

theorem decodeCtrl1_prec (b : Byte) :
    (decodeCtrl1 b).extractLsb' 24 5 = if b.getLsbD 6 = true then 12 else 8 := by
  rw [decodeCtrl1]
  iterate 9 rw [BitVec.extractLsb'_append_eq_of_le (by decide)]
  exact BitVec.extractLsb'_append_eq_right

theorem decodeCtrl1_reserved_high (b : Byte) : (decodeCtrl1 b).extractLsb' 29 2 = 0 := by
  rw [decodeCtrl1]
  iterate 10 rw [BitVec.extractLsb'_append_eq_of_le (by decide)]
  exact BitVec.extractLsb'_append_eq_right

theorem decodeCtrl1_dvalid (b : Byte) : (decodeCtrl1 b).getLsbD 31 = true := by
  rw [decodeCtrl1]
  iterate 11 rw [getLsbD_append_of_le (by decide)]
  rfl

/-! ### The encoded byte (42_decoder.md R246) and its round trip (R247) -/

theorem encCtrl1_res (res : Bool) (g : GSel) : (encCtrl1 res g).getLsbD 6 = res := by
  simp [encCtrl1]

theorem encCtrl1_ie (res : Bool) (g : GSel) : (encCtrl1 res g).getLsbD 5 = false := by
  simp [encCtrl1]

theorem encCtrl1_gsel (res : Bool) (g : GSel) : (encCtrl1 res g).extractLsb' 3 2 = g.code := by
  cases res <;> cases g <;> decide

theorem encCtrl1_low3 (res : Bool) (g : GSel) : (encCtrl1 res g).extractLsb' 0 3 = 0 := by
  cases res <;> cases g <;> decide

theorem withPower_pc (b : Byte) : (withPower b).getLsbD 7 = true := by
  simp [withPower]

theorem withPower_res (b : Byte) : (withPower b).getLsbD 6 = b.getLsbD 6 := by
  simp [withPower]

theorem withPower_ie (b : Byte) : (withPower b).getLsbD 5 = b.getLsbD 5 := by
  simp [withPower]

theorem withPower_gsel (b : Byte) : (withPower b).extractLsb' 3 2 = b.extractLsb' 3 2 :=
  BitVec.extractLsb'_or.trans BitVec.or_zero

theorem withPower_low3 (b : Byte) : (withPower b).extractLsb' 0 3 = b.extractLsb' 0 3 :=
  BitVec.extractLsb'_or.trans BitVec.or_zero

/-- A byte with these fields decodes to them, and its range is not the reserved one. -/
theorem decodeCtrl1_of_fields (hpc : b.getLsbD 7 = power) (hres : b.getLsbD 6 = res) (hie : b.getLsbD 5 = false)
    (hgsel : b.extractLsb' 3 2 = g.code) (hlow3 : b.extractLsb' 0 3 = 0) :
    let w : Word := decodeCtrl1 b
    w.getLsbD 9 = res ∧ w.extractLsb' 11 2 = g.code ∧ w.getLsbD 8 = power ∧ w.getLsbD 10 = false ∧
      w.extractLsb' 14 3 = 0 ∧ w.getLsbD 13 = false := by
  have hgrsv : (g.code == 3) = false := beq_eq_false_iff_ne.mpr g.code_ne_three
  simp only [decodeCtrl1_pc, decodeCtrl1_res, decodeCtrl1_ie, decodeCtrl1_gsel, decodeCtrl1_grsv, decodeCtrl1_low3,
    hpc, hres, hie, hgsel, hlow3, hgrsv, and_self]

/-! ### The words of the window (42_decoder.md R245, R252, R256) -/

theorem hostRead_ctrl1Enc (s : State) : hostRead s .w32 0x38 = ctrl1Enc s.params s.cfg := rfl

theorem hostRead_aligned (s : State) {off : Word} (h4 : off.toNat % 4 = 0) :
    hostRead s .w32 off = windowWord s off.toNat := by
  have hlow : off.extractLsb' 0 2 = 0 := BitVec.eq_of_toNat_eq h4
  rw [hostRead, accessDefined, if_pos (by simp [hlow])]

theorem windowWord_mapRom (s : State) {off : ℕ} (h40 : 0x40 ≤ off) (h80 : off < 0x80) (h4 : off % 4 = 0) :
    windowWord s off = mapRom s.params ((off - 0x40) / 4) := by
  unfold windowWord
  split
  case h_15 => rw [if_pos ⟨h40, h80, h4⟩]
  all_goals omega

theorem windowWord_constRom (s : State) {off : ℕ} (h80 : 0x80 ≤ off) (h90 : off < 0x90) (h4 : off % 4 = 0) :
    windowWord s off = constRom s.params ((off - 0x80) / 4) := by
  unfold windowWord
  split
  case h_15 => rw [if_neg (by omega), if_pos ⟨h80, h90, h4⟩]
  all_goals omega

theorem hostRead_mapRom (s : State) (i : Fin 16) :
    hostRead s .w32 (BitVec.ofNat 32 (0x40 + 4 * i)) = mapRom s.params i := by
  have hoff : (BitVec.ofNat 32 (0x40 + 4 * i)).toNat = 0x40 + 4 * i := Nat.mod_eq_of_lt (by omega)
  have hidx : (0x40 + 4 * i - 0x40) / 4 = (i : ℕ) := by omega
  rw [hostRead_aligned s (by omega), hoff, windowWord_mapRom s (by omega) (by omega) (by omega), hidx]

theorem hostRead_constRom (s : State) (i : Fin 4) :
    hostRead s .w32 (BitVec.ofNat 32 (0x80 + 4 * i)) = constRom s.params i := by
  have hoff : (BitVec.ofNat 32 (0x80 + 4 * i)).toNat = 0x80 + 4 * i := Nat.mod_eq_of_lt (by omega)
  have hidx : (0x80 + 4 * i - 0x80) / 4 = (i : ℕ) := by omega
  rw [hostRead_aligned s (by omega), hoff, windowWord_constRom s (by omega) (by omega) (by omega), hidx]

/-- Only CMD, STATUS and CFG take a write (20_memory.md R84). -/
theorem hostWrite_ignored {width : Width} {off v : Word} (hcmd : off ≠ 0x00) (hstatus : off ≠ 0x04)
    (hcfg : off ≠ 0x08) : hostWrite width off v s = .next s := by
  rcases hostWrite_cases width off v s with ⟨_, h, _⟩ | ⟨_, h, _⟩ | ⟨_, h, _⟩ | h
  · exact absurd h hcmd
  · exact absurd h hstatus
  · exact absurd h hcfg
  · exact h

/-! ### The entries of the MAP ROM (42_decoder.md R251) -/

/-- The fields above ADDR and ADDR itself do not overlap. -/
theorem mapEntry_eq_or (kind : BitVec 4) (axis : BitVec 2) (high : BitVec 1) (addr : Byte) :
    mapEntry kind axis high addr = mapEntry kind axis high 0 ||| addr.setWidth 32 := by
  have hz : addr.setWidth 32 = 0#24 ++ addr := BitVec.setWidth_eq_append (by decide)
  rw [hz, mapEntry, mapEntry, BitVec.or_append, BitVec.or_zero]
  exact congrArg _ BitVec.zero_or.symm

theorem mapEntry_present (kind : BitVec 4) (axis : BitVec 2) (high : BitVec 1) (addr : Byte) :
    (mapEntry kind axis high addr).getLsbD 31 = true := by
  rw [mapEntry]
  iterate 6 rw [getLsbD_append_of_le (by decide)]
  rfl

theorem mapEntry_addr (kind : BitVec 4) (axis : BitVec 2) (high : BitVec 1) (addr : Byte) :
    (mapEntry kind axis high addr).extractLsb' 0 8 = addr :=
  BitVec.extractLsb'_append_eq_right

end

/-! ### The obligations -/

/-- Settles O19: DECODE's one Sequencer step completes it. -/
theorem decodeCompletes : Obligations.DecodeCompletes := by
  intro s imm hm hq
  rw [exec_decode_sequencer hm, decodeStep_dec hq]
  rfl

/-- Settles O20, field by field. -/
theorem decodedFields : Obligations.DecodedFields := by
  intro b
  refine ⟨extractLsb'_decodeCtrl1 b, decodeCtrl1_pc b, decodeCtrl1_res b, decodeCtrl1_ie b, decodeCtrl1_gsel b,
    decodeCtrl1_grsv b, decodeCtrl1_low3 b, decodeCtrl1_reserved_low b, ?_, decodeCtrl1_prec b,
    decodeCtrl1_reserved_high b, decodeCtrl1_dvalid b⟩
  rw [decodeCtrl1_fsg]
  generalize b.extractLsb' 3 2 = gsel
  revert gsel
  decide

/-- Settles O21, field by field. -/
theorem encodedByteFields : Obligations.EncodedByteFields := fun res g =>
  ⟨encCtrl1_power_clear res g, encCtrl1_res res g, encCtrl1_ie res g, encCtrl1_gsel res g, encCtrl1_low3 res g⟩

/-- Settles O22: the encoded byte and the same byte with the power bit set have known fields, which decoding shows. -/
theorem encodeDecodeRoundTrip : Obligations.EncodeDecodeRoundTrip := by
  intro res g
  have hres := encCtrl1_res res g
  have hie := encCtrl1_ie res g
  have hgsel := encCtrl1_gsel res g
  have hlow3 := encCtrl1_low3 res g
  exact ⟨decodeCtrl1_of_fields (encCtrl1_power_clear res g) hres hie hgsel hlow3,
    decodeCtrl1_of_fields (withPower_pc _) ((withPower_res _).trans hres) ((withPower_ie _).trans hie)
      ((withPower_gsel _).trans hgsel) ((withPower_low3 _).trans hlow3)⟩

/-- Settles O23: the view is four bytes put together, and its offset takes no write. -/
theorem encoderViewOfCfg : Obligations.EncoderViewOfCfg := by
  refine ⟨fun s => ?_, ?_, fun s v => hostWrite_ignored (by decide) (by decide) (by decide)⟩
  · rw [hostRead_ctrl1Enc]
    exact extractLsb'_fourBytes ..
  · rw [hostRead_ctrl1Enc]
    decide

/-- Settles O29, row by row with KIND, AXIS and HIGH. -/
theorem mapRomContents : Obligations.MapRomContents := by
  intro s
  have row (i : Fin 16) {w : Word} (h : mapRom s.params i = w) :
      hostRead s .w32 (BitVec.ofNat 32 (0x40 + 4 * i)) = w := (hostRead_mapRom s i).trans h
  exact ⟨row 0 (mapEntry_eq_or 1 0 0 _), row 1 (mapEntry_eq_or 2 0 0 _), row 2 (mapEntry_eq_or 2 0 0 _),
    row 3 (mapEntry_eq_or 2 0 0 _), row 4 (mapEntry_eq_or 3 0 0 _), row 5 (mapEntry_eq_or 3 0 0 _),
    row 6 (mapEntry_eq_or 4 0 0 _), row 7 (mapEntry_eq_or 5 0 0 _), row 8 (mapEntry_eq_or 5 0 1 _),
    row 9 (mapEntry_eq_or 5 1 0 _), row 10 (mapEntry_eq_or 5 1 1 _), row 11 (mapEntry_eq_or 5 2 0 _),
    row 12 (mapEntry_eq_or 5 2 1 _), row 13 rfl, row 14 rfl, row 15 rfl⟩

/-- Settles O30: words 0 and 1 are closed, words 2 and 3 are four bytes put together. -/
theorem constRomContents : Obligations.ConstRomContents := by
  intro s code
  have h0 : hostRead s .w32 0x80 = constRom s.params 0 := hostRead_constRom s 0
  have h1 : hostRead s .w32 0x84 = constRom s.params 1 := hostRead_constRom s 1
  have h2 : hostRead s .w32 0x88 = constRom s.params 2 := hostRead_constRom s 2
  have h3 : hostRead s .w32 0x8C = constRom s.params 3 := hostRead_constRom s 3
  rw [h0, h1, h2, h3]
  exact ⟨rfl, rfl, extractLsb'_fourBytes .., extractLsb'_fourBytes ..⟩

/-- Settles O32: each of the five requests is sent to the address of its own entry. -/
theorem sentAddressesAreMapped : Obligations.SentAddressesAreMapped := by
  intro s r h
  rcases requestOf_eq_some h with rfl | rfl | rfl | rfl | rfl
  · exact ⟨6, by decide, mapEntry_present .., mapEntry_addr ..⟩
  · exact ⟨1, by decide, mapEntry_present .., mapEntry_addr ..⟩
  · exact ⟨1, by decide, mapEntry_present .., mapEntry_addr ..⟩
  · exact ⟨0, by decide, mapEntry_present .., mapEntry_addr ..⟩
  · exact ⟨7, by decide, mapEntry_present .., mapEntry_addr ..⟩

end Sys2Proof.Machine
end

section
/-! PROOFS. The reset family (70_reset_and_hazards.md): the value of every register and hidden state after reset, and the
ROMs a reset leaves alone (R310). -/

namespace Sys2Proof.Machine

/-! ### Reads of the ROMs -/

/-- From offset 0x40 on, the window shows nothing but the parameters (42_decoder.md R252, R256). -/
theorem hostRead_congr_of_params_eq {s t : State} {off : Word} (width : Width) (hp : t.params = s.params)
    (h40 : 0x40 ≤ off.toNat) : hostRead t width off = hostRead s width off := by
  have hword : windowWord t off.toNat = windowWord s off.toNat := by
    generalize off.toNat = n at h40
    unfold windowWord
    split
    case h_15 => rw [hp]
    all_goals omega
  rw [hostRead, hostRead, hword]

/-- CTRL1_ENC at the reset values of CFG, the bytes 0xC0 and 0x40 under the code of ODR 5 (42_decoder.md R245). -/
theorem ctrl1Enc_reset (p : Params) : ctrl1Enc p ⟨5, true, .g2⟩ = 0#8 ++ p.code 5 ++ 0xC0#8 ++ 0x40#8 := by
  have henc : encCtrl1 true .g2 = 0x40 := by decide
  have hpower : withPower 0x40 = 0xC0 := by decide
  rw [ctrl1Enc, henc, hpower]
  rfl

/-! ### The obligations -/

/-- Settles O36: CTRL1_ENC is read off `ctrl1Enc_reset`, a register's word is evaluated at its reset value, and a reset
keeps the parameters the ROMs show. -/
theorem resetHoldsTheSpecValues : Obligations.ResetHoldsTheSpecValues := by
  refine ⟨⟨?cmd, ?status, ?cfg, ?id, ?sx, ?sy, ?sz, ?rawx, ?rawy, ?rawz, ?ctrl1Img, ?dec, ?errinfo, ?latch, ?ctrl1Enc,
    ?seq, ?snap, ?pend⟩, ?ti, fun s off h40 _ => hostRead_congr_of_params_eq .w32 (resetTurn_params s) h40⟩
  case ctrl1Enc => exact (hostRead_ctrl1Enc State.reset).trans (ctrl1Enc_reset _)
  case ti =>
    rw [hostRead_ctrl1Enc]
    exact (ctrl1Enc_reset .ti).trans (by decide)
  all_goals rfl

end Sys2Proof.Machine
end

section
/-! PROOFS. The command words as bytes (30_encoding.md R120, R150; 20_memory.md R83). -/

namespace Sys2Proof

section
variable {w : Word} {bs : List Byte} {i : Instr}

/-- The bytes of a word, put together again in lane order. -/
theorem byteLanes_append (w : Word) : byteLane w 3 ++ byteLane w 2 ++ byteLane w 1 ++ byteLane w 0 = w := by
  unfold byteLane
  iterate 3 rw [BitVec.extractLsb'_append_extractLsb'_eq_extractLsb' (by decide)]
  exact BitVec.extractLsb'_eq_self

theorem wordBytes_append (b3 b2 b1 b0 : Byte) : wordBytes (b3 ++ b2 ++ b1 ++ b0) = [b0, b1, b2, b3] := by
  obtain ⟨h3, h2, h1, h0⟩ := extractLsb'_fourBytes b3 b2 b1 b0
  simp only [wordBytes, byteLane, List.cons.injEq, and_true]
  exact ⟨h0, h1, h2, h3⟩

@[simp] theorem decodeBytes_wordBytes (w : Word) : decodeBytes (wordBytes w) = decodeWord w :=
  congrArg decodeWord (byteLanes_append w)

/-- Bytes that are a command are the bytes of one word, and that word is the command. -/
theorem decodeBytes_eq_cmd (h : decodeBytes bs = .cmd i) : ∃ w, bs = wordBytes w ∧ decodeWord w = .cmd i := by
  unfold decodeBytes at h
  split at h
  · next b0 b1 b2 b3 => exact ⟨b3 ++ b2 ++ b1 ++ b0, (wordBytes_append b3 b2 b1 b0).symm, h⟩
  · cases h

theorem decodeBytes_eq_cmd_iff : decodeBytes bs = .cmd i ↔ bs = wordBytes (encode i) := by
  constructor
  · intro h
    obtain ⟨w, rfl, hw⟩ := decodeBytes_eq_cmd h
    rw [eq_encode_of_decodeWord hw]
  · rintro rfl
    rw [decodeBytes_wordBytes, decodeWord_encode]

end

/-! ### The obligations -/

/-- Settles O2: on words by the fields of a command word, on bytes because four bytes and their word determine each
other. -/
theorem decodeIffEncode : Obligations.DecodeIffEncode :=
  ⟨fun _ _ => decodeWord_eq_cmd_iff, fun _ _ => decodeBytes_eq_cmd_iff⟩

/-- Settles O1, word by word. -/
theorem specWordsDecode : Obligations.SpecWordsDecode := by
  refine ⟨decodeWord_encode .configure, decodeWord_encode .readId, decodeWord_encode .sample,
    decodeWord_encode (.decode 0xFF), ?_, ?_, ?_⟩ <;> decide

end Sys2Proof
end

section
/-! PROOFS. The invariant (10_state.md sections 2 to 6): the reset state meets it, and each event of `StepEffect` keeps
it. -/

namespace Sys2Proof.Machine

section
variable {s u t : State} {i : Instr} {req : BusReq} {resp : BusResp} {q : Seq}

/-! ### What the invariant says of a running command and of its slot -/

theorem Inv.seq_of_not_busy (h : Inv s) (hb : s.status.busy = false) : s.seq = .idle := by
  by_contra hq
  rw [h.busy_iff.mpr hq] at hb
  cases hb

/-- With nothing to send, at IDLE and in a DECODE, the slot is free (10_state.md R62). -/
theorem Inv.pend_of_no_request (h : Inv s) (hr : requestOf s = none) : s.pend = .none := by
  have hf := h.pend_fits
  unfold pendFits at hf
  split at hf
  · assumption
  · rw [hr] at hf; cases hf
  · rw [hr] at hf; cases hf.1

theorem Inv.pend_of_idle (h : Inv s) (hq : s.seq = .idle) : s.pend = .none :=
  h.pend_of_no_request (by rw [requestOf, hq])

theorem Inv.requestOf_issued (h : Inv s) (hp : s.pend = .issued req) : requestOf s = some req := by
  have hf := h.pend_fits
  rwa [pendFits, hp] at hf

/-- Outside IDLE a command runs, and only there (10_state.md R60). -/
theorem exists_running (hq : s.seq ≠ .idle) : ∃ i, running s = some i := by
  cases hs : s.seq
  case idle => exact absurd hs hq
  all_goals exact ⟨_, by rw [running, hs]⟩

theorem not_running_of_idle (hq : s.seq = .idle) : running s ≠ some i := by
  simp [running, hq]

theorem seq_ne_idle_of_requestOf (hr : requestOf s = some req) : s.seq ≠ .idle := by
  intro hq
  rw [requestOf, hq] at hr
  cases hr

/-! ### Reset and the agents' own fields -/

theorem inv_reset : Inv State.reset where
  busy_iff := by decide
  lastop_running := by rintro i h; cases h
  lastop_legal := by decide
  running_clear := by decide
  done_or_err := by decide
  err_recorded := by decide
  done_unrecorded := by decide
  errinfo_zero := by decide
  errinfo_last := by decide
  ephase_legal := by decide
  pend_fits := trivial
  configuring_standby := by decide
  image_fits := trivial
  active_image := by decide
  latch_default := by decide
  sampling_invalid := by decide
  reading_invalid := by decide
  id_byte := by decide
  dec_decoded := by decide
  rawx_signed := by decide
  rawy_signed := by decide
  rawz_signed := by decide
  params_wf := config_params_wf

theorem inv_resetTurn (h : Inv s) : Inv (resetTurn s) := { inv_reset with params_wf := h.params_wf }

theorem inv_agentsMoved (h : Inv s) (prog : List HostOp) (turns : List Turn) (rdata : Word) (mover : Mover) :
    Inv { s with prog := prog, turns := turns, rdata := rdata, mover := mover } := { h with }

/-! ### Host writes -/

theorem inv_droppedCommand (h : Inv s) : Inv (droppedCommand s) := { h with }

theorem inv_illegalCommand (h : Inv s) : Inv (illegalCommand s) := { h with }

theorem inv_cfgWrite (h : Inv s) (v : Word) : Inv (cfgWrite v s) := { h with }

/-- The write can only clear DONE and ERR, so what was said of a set flag still holds. -/
theorem inv_statusWrite (h : Inv s) (v : Word) : Inv (statusWrite v s) :=
  { h with
    running_clear := fun hq => by
      obtain ⟨hd, he, hz⟩ := h.running_clear hq
      simp [Status.written, hd, he, hz]
    done_or_err := by
      rcases h.done_or_err with hd | he
      · exact .inl (by simp [Status.written, hd])
      · exact .inr (by simp [Status.written, he])
    err_recorded := fun he => h.err_recorded (Bool.and_eq_true_iff.mp he).1
    done_unrecorded := fun hd => h.done_unrecorded (Bool.and_eq_true_iff.mp hd).1 }

/-! ### Acceptance (40_sequencer.md R170) -/

theorem not_busy_of_accepts (h : Accepts s i) : s.status.busy = false :=
  have ⟨_, _, _, hb⟩ := h
  hb

theorem opcode_legal (i : Instr) : i.opcode ∈ ([0, 1, 2, 3, 4] : List Byte) := by
  cases i <;> simp [Instr.opcode]

/-- The sequencer state a command is accepted into (10_state.md R60). -/
def entrySeq : Instr → Seq
  | .configure => .cfg1
  | .readId    => .rid
  | .sample    => .smp
  | .decode _  => .dec

/-- Acceptance with the sequencer state: what `acceptanceEffects` makes of an accepted state, but for the flags that the
command's own effects clear. -/
def started (i : Instr) (s : State) : State := { accept i s with seq := entrySeq i }

theorem running_started (i : Instr) (s : State) : running (started i s) = some i := by
  cases i <;> rfl

/-- An accepted command meets the invariant when its own effects have cleared what it will set (40_sequencer.md R175,
R193; 41_acquisition.md R211). -/
theorem inv_started (h : Inv s) (hq : s.seq = .idle)
    (hc : i = .configure → s.status.active = false ∧ s.ctrl1Img.imgv = false)
    (hs : i = .sample → s.status.svalid = false) (hr : i = .readId → s.status.idvalid = false) : Inv (started i s) :=
  have hne : (started i s).seq ≠ .idle := fun hi => not_running_of_idle hi (running_started i s)
  { h with
    busy_iff := ⟨fun _ => hne, fun _ => rfl⟩
    lastop_running := fun j hj => by
      obtain rfl : i = j := Option.some.inj ((running_started i s).symm.trans hj)
      rfl
    lastop_legal := opcode_legal i
    running_clear := fun _ => ⟨rfl, rfl, rfl⟩
    done_or_err := .inl rfl
    err_recorded := fun he => by cases he
    done_unrecorded := fun _ => rfl
    errinfo_zero := fun _ => rfl
    errinfo_last := fun he => by cases he
    ephase_legal := (by decide : (0 : BitVec 2) ≠ 3)
    pend_fits := by rw [pendFits, show (started i s).pend = .none from h.pend_of_idle hq]; trivial
    configuring_standby := by
      cases i with
      | configure => exact fun _ => (hc rfl).1
      | _ => exact fun hcfg => by cases hcfg
    image_fits := by
      cases i with
      | configure => exact (hc rfl).2
      | _ => trivial
    sampling_invalid := by
      cases i with
      | sample => exact fun _ => hs rfl
      | _ => exact fun hsmp => by cases hsmp
    reading_invalid := by
      cases i with
      | readId => exact fun _ => hr rfl
      | _ => exact fun hrid => by cases hrid }

/-- At IDLE the image may be forgotten when the device is in standby. -/
theorem inv_forgetImage (h : Inv s) (hq : s.seq = .idle) (ha : s.status.active = false) : Inv (forgetImage s) :=
  { h with
    image_fits := by rw [imageFits, forgetImage_seq, hq]; trivial
    active_image := fun ha' => by cases ha.symm.trans ha' }

theorem inv_standby (h : Inv s) : Inv { s with status := { s.status with active := false } } :=
  { h with
    configuring_standby := fun _ => rfl
    active_image := fun ha => by cases ha }

theorem inv_accepted (h : Inv s) (hb : s.status.busy = false) : Inv (acceptanceEffects i (accept i s)) := by
  have hq : s.seq = .idle := h.seq_of_not_busy hb
  cases i with
  | configure =>
    have hu : Inv (forgetImage { s with status := { s.status with active := false } }) :=
      inv_forgetImage (inv_standby h) hq rfl
    exact inv_started (i := .configure) hu hq (fun _ => ⟨rfl, rfl⟩) (by simp) (by simp)
  | readId =>
    have hu : Inv { s with status := { s.status with idvalid := false } } := { h with reading_invalid := fun _ => rfl }
    exact inv_started (i := .readId) hu hq (by simp) (by simp) (fun _ => rfl)
  | sample =>
    have hu : Inv { s with status := { s.status with svalid := false } } := { h with sampling_invalid := fun _ => rfl }
    exact inv_started (i := .sample) hu hq (by simp) (fun _ => rfl) (by simp)
  | decode imm => exact inv_started (i := .decode imm) h hq (by simp) (by simp) (by simp)

/-! ### The bus port (20_memory.md R91, 40_sequencer.md R172, R173) -/

theorem inv_issue (h : Inv s) (hr : requestOf s = some req) : Inv (issue req s) := { h with pend_fits := hr }

theorem inv_answered (h : Inv s) (hp : s.pend = .issued req) (hf : respFits req resp = true) (tr : List BusEvent) :
    Inv { s with pend := .answered req resp, trace := tr } :=
  { h with pend_fits := ⟨h.requestOf_issued hp, hf⟩ }

theorem inv_consume (h : Inv s) : Inv (consume s) := { h with pend_fits := trivial }

/-! ### The end of a command -/

/-- What every successful completion does (10_state.md R34, R35), beside committing its results. -/
def finished (s : State) : State := { s with status := s.status.completed, seq := .idle }

theorem inv_finished (h : Inv s) (hq : s.seq ≠ .idle) (hp : s.pend = .none) : Inv (finished s) :=
  have ⟨_, he, hz⟩ := h.running_clear hq
  { h with
    busy_iff := by simp [finished, Status.completed]
    lastop_running := fun i hi => absurd hi (not_running_of_idle rfl)
    running_clear := fun hq' => absurd rfl hq'
    done_or_err := .inr he
    done_unrecorded := fun _ => by rw [finished, hz]; rfl
    pend_fits := by rw [pendFits, finished, hp]; trivial
    configuring_standby := fun hc => by cases hc
    image_fits := trivial
    sampling_invalid := fun hq' => by cases hq'
    reading_invalid := fun hq' => by cases hq' }

theorem inv_transportFailure {op : BitVec 3} {n : BitVec 2} {p : Phase} {c a : Byte} (h : Inv s)
    (hi : running s = some i) (hop : i.opcode.extractLsb' 0 3 = op) (hp : s.pend = .none) :
    Inv (transportFailure op n p c a s) :=
  have hq : s.seq ≠ .idle := fun hq => not_running_of_idle hq hi
  have ⟨hd, _, _⟩ := h.running_clear hq
  { h with
    busy_iff := by simp [Status.failed]
    lastop_running := fun i hi => absurd hi (not_running_of_idle rfl)
    running_clear := fun hq' => absurd rfl hq'
    done_or_err := .inl hd
    err_recorded := fun _ => rfl
    done_unrecorded := fun hd' => by cases hd.symm.trans hd'
    errinfo_zero := fun hz => by cases hz
    errinfo_last := fun _ => by
      rw [transportFailure_status, transportFailure_errinfo, ← hop, ← h.lastop_running i hi]
      rfl
    ephase_legal := phaseCode_ne_three p
    pend_fits := by rw [pendFits, transportFailure_pend, hp]; trivial
    configuring_standby := fun hc => by cases hc
    image_fits := trivial
    sampling_invalid := fun hq' => by cases hq'
    reading_invalid := fun hq' => by cases hq' }

/-! ### CONFIGURE goes on (40_sequencer.md R178, R181) -/

theorem configuring_iff_running : configuring s.seq = true ↔ running s = some .configure := by
  cases hq : s.seq <;> simp [configuring, running, hq]

/-- From one of CONFIGURE's writes to the next, with the image that is then known. -/
theorem inv_nextWrite {im : Ctrl1Img} (h : Inv s) (hs : configuring s.seq = true) (hq : configuring q = true)
    (hp : s.pend = .none) (him : imageFits { s with ctrl1Img := im, seq := q }) :
    Inv { s with ctrl1Img := im, seq := q } :=
  have hne : s.seq ≠ .idle := fun hi => by rw [hi] at hs; cases hs
  have hne' : q ≠ .idle := fun hi => by rw [hi] at hq; cases hq
  { h with
    busy_iff := ⟨fun _ => hne', fun _ => h.busy_iff.mpr hne⟩
    lastop_running := fun i hi => by
      have hrun : running { s with ctrl1Img := im, seq := q } = some .configure := configuring_iff_running.mp hq
      obtain rfl : .configure = i := Option.some.inj (hrun.symm.trans hi)
      exact h.lastop_running _ (configuring_iff_running.mp hs)
    running_clear := fun _ => h.running_clear hne
    pend_fits := by rw [pendFits, hp]; trivial
    configuring_standby := fun _ => h.configuring_standby hs
    image_fits := him
    active_image := fun ha => by cases (h.configuring_standby hs).symm.trans ha
    sampling_invalid := fun hi => by rw [show q = .smp from hi] at hq; cases hq
    reading_invalid := fun hi => by rw [show q = .rid from hi] at hq; cases hq }

theorem inv_cfg1Ok (h : Inv s) (hq : s.seq = .cfg1) : Inv { consume s with seq := .cfg2 } :=
  have him : s.ctrl1Img.imgv = false := by
    have him := h.image_fits
    rwa [imageFits, hq] at him
  inv_nextWrite (inv_consume h) (by rw [consume_seq, hq]; rfl) rfl rfl him

theorem inv_cfg2Ok (h : Inv s) (hq : s.seq = .cfg2) : Inv (cfg2Done (consume s)) :=
  inv_nextWrite (q := .cfg3) (inv_consume h) (by rw [consume_seq, hq]; rfl) rfl rfl rfl

/-! ### The completions (40_sequencer.md R188, R196; 41_acquisition.md R215; 42_decoder.md R242) -/

theorem inv_completeConfigure (h : Inv s) (hq : s.seq ≠ .idle) (hp : s.pend = .none) : Inv (completeConfigure s) :=
  { inv_finished h hq hp with
    image_fits := trivial
    configuring_standby := fun hc => by cases hc
    active_image := fun _ => ⟨rfl, rfl⟩
    latch_default := fun hl => by cases hl }

theorem inv_completeReadId (b : Byte) (h : Inv s) (hq : s.seq ≠ .idle) (hp : s.pend = .none) :
    Inv (completeReadId b s) :=
  { inv_finished h hq hp with
    reading_invalid := fun hr => by cases hr
    id_byte := extractLsb'_zext32 b }

theorem sext32_extractLsb'_sext32 (r : Half) : sext32 ((sext32 r).extractLsb' 0 16) = sext32 r := by
  rw [extractLsb'_sext32]

theorem inv_completeSample (rx ry rz : Half) (h : Inv s) (hq : s.seq ≠ .idle) (hp : s.pend = .none) :
    Inv (completeSample rx ry rz s) :=
  { inv_finished h hq hp with
    sampling_invalid := fun hr => by cases hr
    rawx_signed := sext32_extractLsb'_sext32 rx
    rawy_signed := sext32_extractLsb'_sext32 ry
    rawz_signed := sext32_extractLsb'_sext32 rz }

theorem inv_completeDecode (h : Inv s) (hq : s.seq = .dec) : Inv (completeDecode s) :=
  { inv_finished h (by rw [hq]; decide) (h.pend_of_no_request (by rw [requestOf, hq])) with
    dec_decoded := .inr (by rw [completeDecode_dec, extractLsb'_decodeCtrl1]) }

/-! ### Every event -/

theorem inv_stepEffect {prog : List HostOp} {turns : List Turn} {rdata : Word} {mover : Mover} (h : Inv s)
    (e : StepEffect s { s with prog := prog, turns := turns, rdata := rdata, mover := mover } t) : Inv t := by
  have hu := inv_agentsMoved h prog turns rdata mover
  have hc := inv_consume hu
  have idle {i : Instr} : Accepts s i → s.status.busy = false := not_busy_of_accepts
  cases e with
  | quiet => exact hu
  | reset => exact inv_resetTurn hu
  | statusWritten v => exact inv_statusWrite hu v
  | cfgWritten v => exact inv_cfgWrite hu v
  | dropped => exact inv_droppedCommand hu
  | illegal => exact inv_illegalCommand hu
  | acceptConfigure ha => exact inv_accepted (i := .configure) hu (idle ha)
  | acceptReadId ha => exact inv_accepted (i := .readId) hu (idle ha)
  | acceptSample ha => exact inv_accepted (i := .sample) hu (idle ha)
  | acceptDecode imm ha => exact inv_accepted (i := .decode imm) hu (idle ha)
  | issued req _ _ hr => exact inv_issue hu hr
  | answered req resp _ hp hf => exact inv_answered hu hp hf _
  | cfg1Ok req _ hq => exact inv_cfg1Ok hu hq
  | cfg2Ok req _ hq => exact inv_cfg2Ok hu hq
  | cfg3Ok req _ hq => exact inv_completeConfigure hc (by simp [hq]) rfl
  | ridOk req b _ hq => exact inv_completeReadId b hc (by simp [hq]) rfl
  | smpOk req b0 b1 b2 b3 b4 b5 _ hq => exact inv_completeSample _ _ _ hc (by simp [hq]) rfl
  | decoded hd => exact inv_completeDecode hu hd.2
  | cfg1Fail req p c _ hq => exact inv_transportFailure (i := .configure) hc (by simp [running, hq]) rfl rfl
  | cfg2Fail req p c _ hq | cfg3Fail req p c _ hq =>
    have ha : s.status.active = false := h.configuring_standby (by rw [hq]; rfl)
    exact inv_forgetImage (inv_transportFailure (i := .configure) hc (by simp [running, hq]) rfl rfl) rfl ha
  | ridFail req p c _ hq => exact inv_transportFailure (i := .readId) hc (by simp [running, hq]) rfl rfl
  | smpFail req p c _ hq => exact inv_transportFailure (i := .sample) hc (by simp [running, hq]) rfl rfl

end

/-! ### The obligations -/

/-- Settles O49. -/
theorem resetMeetsInvariant : Obligations.ResetMeetsInvariant := inv_reset

/-- Settles O50: the step is one of the events of `StepEffect`, and each keeps the invariant. -/
theorem stepKeepsInvariant : Obligations.StepKeepsInvariant := by
  intro s t h hstep
  obtain ⟨_, _, _, _, e⟩ := step_effect hstep
  exact inv_stepEffect h e

end Sys2Proof.Machine
end

section
/-! PROOFS. The bus protocol (20_memory.md R88 to R101, 40_sequencer.md R189 (a), 41_acquisition.md R217 (a)): every
event of `StepEffect` leaves the trace at the stage that seq and pend say. -/

namespace Sys2Proof.Machine

section
variable {s u t : State} {req : BusReq} {resp : BusResp} {e : BusEvent}

/-! ### How a step can move the trace's stage -/

/-- A trace left alone stays where it stands. -/
theorem TraceFollowsProtocol.of_kept (h : TraceFollowsProtocol s) (hp : t.params = s.params) (ht : t.trace = s.trace)
    (hg : expectedStage t = expectedStage s) : TraceFollowsProtocol t := by
  rw [TraceFollowsProtocol, hp, ht, hg]
  exact h

/-- One more event moves the stage once. -/
theorem TraceFollowsProtocol.of_appended (h : TraceFollowsProtocol s) (hp : t.params = s.params)
    (ht : t.trace = s.trace ++ [e]) (hg : (expectedStage s).after s.params e = some (expectedStage t)) :
    TraceFollowsProtocol t := by
  rw [TraceFollowsProtocol, hp, ht, stageOf_append, show stageOf s.params .quiet s.trace = _ from h, Option.bind_some,
    hg]

/-! ### The three events that the trace records -/

/-- The issued request is the one that is due (40_sequencer.md R172). -/
theorem expectedStage_issued (hp : s.pend = .none) (hr : requestOf s = some req) :
    (expectedStage s).afterReq s.params req = some (expectedStage { s with pend := .issued req }) := by
  have hcode : s.params.code s.snap.odr ∈ s.params.odrCode := code_mem s.params s.snap.odr
  have hb2 : s.snap.b2[7] = false := encCtrl1_power_clear s.snap.res s.snap.gsel
  cases hq : s.seq <;> simp only [requestOf, hq, Option.some.injEq, reduceCtorEq] at hr
  all_goals subst hr
  · simp [expectedStage, hq, hp, cfg1Req, BusStage.afterReq, hcode]
  · simp [expectedStage, hq, hp, cfg2Req, BusStage.afterReq, hb2]
  · simp [expectedStage, hq, hp, cfg3Req, BusStage.afterReq, Snap.b3, withPower]
  · simp [expectedStage, hq, hp, ridReq, BusStage.afterReq]
  · simp [expectedStage, hq, hp, smpReq, BusStage.afterReq]

/-- The stage an OK leads to, or the end of the command after a failure (60_exceptions.md R275). -/
def BusStage.onOk (ok : BusStage) : BusResp → BusStage
  | .ok _     => ok
  | .fail _ _ => .quiet

theorem due_of_fits_wr {a d : Byte} {ok : BusStage} (hf : respFits (.wr a d) resp = true) :
    BusStage.due 0 true ok resp = some (ok.onOk resp) := by
  cases resp with
  | ok bytes => rw [(respFits_wr_ok a d bytes).mp hf]; rfl
  | fail p c => rw [(respFits_wr_fail a d p c).mp hf]; rfl

theorem due_of_fits_rd {a : Byte} {ok : BusStage} (hf : respFits (.rd a) resp = true) :
    BusStage.due 1 false ok resp = some (ok.onOk resp) := by
  cases resp with
  | ok bytes => obtain ⟨b, rfl⟩ := (respFits_rd_ok a bytes).mp hf; rfl
  | fail p c => rcases (respFits_rd_fail a p c).mp hf with rfl | rfl <;> rfl

theorem due_of_fits_rdseq {a : Byte} {ok : BusStage} (hf : respFits (.rdseq a 6) resp = true) :
    BusStage.due 6 false ok resp = some (ok.onOk resp) := by
  cases resp with
  | ok bytes => exact if_pos ((respFits_rdseq_ok a 6 bytes).mp hf)
  | fail p c => rcases (respFits_rdseq_fail a 6 p c).mp hf with rfl | rfl <;> rfl

/-- A well-formed answer is the one that is due (20_memory.md R90). -/
theorem expectedStage_answered (hp : s.pend = .issued req) (hr : requestOf s = some req)
    (hf : respFits req resp = true) :
    (expectedStage s).afterResp resp = some (expectedStage { s with pend := .answered req resp }) := by
  cases hq : s.seq <;> simp only [requestOf, hq, Option.some.injEq, reduceCtorEq] at hr
  all_goals
    subst hr
    rw [expectedStage, hq, hp]
  case cfg1 | cfg2 | cfg3 => exact (due_of_fits_wr hf).trans (by cases resp <;> rfl)
  case rid => exact (due_of_fits_rd hf).trans (by cases resp <;> rfl)
  case smp => exact (due_of_fits_rdseq hf).trans (by cases resp <;> rfl)

/-! ### Every event -/

theorem traceFollowsProtocol_stepEffect {prog : List HostOp} {turns : List Turn} {rdata : Word} {mover : Mover}
    (hinv : Inv s) (h : TraceFollowsProtocol s)
    (e : StepEffect s { s with prog := prog, turns := turns, rdata := rdata, mover := mover } t) :
    TraceFollowsProtocol t := by
  have hidle {i : Instr} (ha : Accepts s i) : s.seq = .idle ∧ s.pend = .none :=
    have hq := hinv.seq_of_not_busy (not_busy_of_accepts ha)
    ⟨hq, hinv.pend_of_idle hq⟩
  cases e with
  | quiet | statusWritten | cfgWritten | dropped | illegal => exact h.of_kept rfl rfl rfl
  | reset => exact h.of_appended rfl rfl rfl
  | issued req _ hp hr => exact h.of_appended rfl rfl (expectedStage_issued hp hr)
  | answered req resp _ hp hf =>
    exact h.of_appended rfl rfl (expectedStage_answered hp (hinv.requestOf_issued hp) hf)
  | acceptConfigure ha | acceptReadId ha | acceptSample ha | acceptDecode _ ha =>
    obtain ⟨hq, hp⟩ := hidle ha
    exact h.of_kept rfl rfl (by simp [expectedStage, hq, hp])
  | decoded hd =>
    exact h.of_kept rfl rfl (by simp [expectedStage, hd.2])
  | cfg1Ok _ _ hq hp | cfg2Ok _ _ hq hp | cfg3Ok _ _ hq hp | ridOk _ _ _ hq hp | smpOk _ _ _ _ _ _ _ _ hq hp
  | cfg1Fail _ _ _ _ hq hp | cfg2Fail _ _ _ _ hq hp | cfg3Fail _ _ _ _ hq hp | ridFail _ _ _ _ hq hp
  | smpFail _ _ _ _ hq hp => exact h.of_kept rfl rfl (by simp [expectedStage, hq, hp])

end

/-! ### The obligations -/

/-- Settles O52. -/
theorem resetTraceFollowsProtocol : Obligations.ResetTraceFollowsProtocol := rfl

/-- Settles O53: an issued request and its answer are the ones due at the stage of seq and pend, a reset may come at any
time, and every other event records nothing and keeps that stage. -/
theorem stepKeepsBusProtocol : Obligations.StepKeepsBusProtocol := by
  intro s t hinv h hstep
  obtain ⟨_, _, _, _, e⟩ := step_effect hstep
  exact traceFollowsProtocol_stepEffect hinv h e

end Sys2Proof.Machine
end

section
/-! PROOFS. The frames of the four commands (10_state.md section 5; 40_sequencer.md sections 1 to 3; 41_acquisition.md
section 1; 42_decoder.md section 1): the Host's step presents the command, the Sequencer's step is one of the cases of
the command's own. -/

namespace Sys2Proof.Machine

/-! ### The obligations -/

/-- Settles O44, by the agent that moves and what its step of CONFIGURE can do. -/
theorem configureFrame : Obligations.ConfigureFrame := by
  intro s t h
  cases hm : s.mover with
  | host =>
    obtain rfl := Host.Outcome.next.inj ((exec_configure_host hm).symm.trans h)
    rcases present_cases .configure configureEffects s with ⟨_, e⟩ | ⟨_, e⟩ <;> simp [e, hm, Status.accepted]
  | sequencer =>
    obtain rfl := Host.Outcome.next.inj ((exec_configure_sequencer hm).symm.trans h)
    rcases configureStep_cases s with e | ⟨req, _, hp, hr, e⟩ | ⟨req, _, _, e⟩ | ⟨req, _, _, e⟩ | ⟨req, _, _, e⟩ |
      ⟨req, p, c, _, _, e⟩ | ⟨req, p, c, _, _, e⟩ | ⟨req, p, c, _, _, e⟩
    case inr.inl => simp [e, hm, hp, hr]
    all_goals simp [e, hm, Status.completed, Status.failed]

/-- Settles O45, by the agent that moves and what its step of READ_ID can do. -/
theorem readIdFrame : Obligations.ReadIdFrame := by
  intro s t h
  cases hm : s.mover with
  | host =>
    obtain rfl := Host.Outcome.next.inj ((exec_readId_host hm).symm.trans h)
    rcases present_cases .readId readIdEffects s with ⟨_, e⟩ | ⟨_, e⟩ <;> simp [e, hm, Status.accepted]
  | sequencer =>
    obtain rfl := Host.Outcome.next.inj ((exec_readId_sequencer hm).symm.trans h)
    rcases readIdStep_cases s with e | ⟨hq, hp, e⟩ | ⟨req, b, _, _, e⟩ | ⟨req, p, c, _, _, e⟩
    case inr.inl => simp [e, hm, hp, requestOf, hq]
    all_goals simp [e, hm, Status.completed, Status.failed]

/-- Settles O46, by the agent that moves and what its step of SAMPLE can do. -/
theorem sampleFrame : Obligations.SampleFrame := by
  intro s t h
  cases hm : s.mover with
  | host =>
    obtain rfl := Host.Outcome.next.inj ((exec_sample_host hm).symm.trans h)
    rcases present_cases .sample sampleEffects s with ⟨_, e⟩ | ⟨_, e⟩ <;> simp [e, hm, Status.accepted]
  | sequencer =>
    obtain rfl := Host.Outcome.next.inj ((exec_sample_sequencer hm).symm.trans h)
    rcases sampleStep_cases s with e | ⟨hq, hp, e⟩ | ⟨req, b0, b1, b2, b3, b4, b5, _, _, e⟩ | ⟨req, p, c, _, _, e⟩
    case inr.inl => simp [e, hm, hp, requestOf, hq]
    all_goals simp [e, hm, Status.completed, Status.failed]

/-- Settles O47, by the agent that moves and what its step of DECODE can do. -/
theorem decodeFrame : Obligations.DecodeFrame := by
  intro imm s t h
  cases hm : s.mover with
  | host =>
    obtain rfl := Host.Outcome.next.inj ((exec_decode_host hm).symm.trans h)
    rcases present_cases (.decode imm) decodeEffects s with ⟨_, e⟩ | ⟨_, e⟩ <;> simp [e, hm, Status.accepted]
  | sequencer =>
    obtain rfl := Host.Outcome.next.inj ((exec_decode_sequencer hm).symm.trans h)
    rcases decodeStep_cases s with ⟨_, e⟩ | ⟨_, e⟩ <;> simp [e, hm, Status.completed]

end Sys2Proof.Machine
end

section
/-! PROOFS. Rules of the whole machine: the ROMs (42_decoder.md R250), unanswered requests (60_exceptions.md R284), the
block never stops (R277), BUSY (10_state.md R34), results in one step (20_memory.md R102) and progress
(70_reset_and_hazards.md R345). -/

namespace Sys2Proof.Machine

section
variable {s u t : State} {i : Instr} {req : BusReq} {resp : BusResp} {rest : List Turn} {prog : List HostOp}
  {turns : List Turn} {rdata : Word} {mover : Mover}

/-! ### No event writes the parameters -/

theorem StepEffect.params_kept (e : StepEffect s u t) : t.params = u.params := by
  cases e <;> rfl

/-! ### Every agent's turn answers a next state -/

theorem exec_next (i : Instr) (s : State) : ∃ t, exec i s = .next t := by
  cases hm : s.mover with
  | host => exact ⟨_, exec_host hm⟩
  | sequencer => exact ⟨_, exec_sequencer hm⟩

theorem cmdWrite_next (w : Word) (s : State) : ∃ t, cmdWrite w s = .next t := by
  rcases cmdWrite_cases w s with ⟨_, _, e⟩ | ⟨i, _, e⟩
  · exact ⟨_, e⟩
  · rw [e]
    exact exec_next i _

theorem hostWrite_next (width : Width) (off v : Word) (s : State) : ∃ t, hostWrite width off v s = .next t := by
  rcases hostWrite_cases width off v s with ⟨_, _, e⟩ | ⟨_, _, e⟩ | ⟨_, _, e⟩ | e
  · rw [e]
    exact cmdWrite_next v s
  all_goals exact ⟨_, e⟩

theorem hostTurn_next (s : State) : ∃ t, hostTurn s = .next t := by
  rcases hostTurn_cases s with ⟨_, e⟩ | ⟨width, off, v, rest, _, e⟩ | ⟨_, _, _, _, e⟩ | ⟨_, _, _, _, _, _, e⟩ |
    ⟨_, _, _, _, _, _, e⟩
  case inr.inl =>
    rw [e]
    exact hostWrite_next width off v _
  all_goals exact ⟨_, e⟩

theorem sequencerTurn_next (s : State) : ∃ t, sequencerTurn s = .next t := by
  rcases sequencerTurn_cases s with ⟨_, e⟩ | ⟨_, e⟩ | ⟨_, e⟩ | ⟨_, e⟩ | ⟨_, e⟩ <;> exact ⟨_, e⟩

theorem step_next (s : State) : ∃ t, step s = .next t := by
  rcases step_cases s with ⟨_, e⟩ | ⟨rest, _, e⟩ | ⟨rest, _, e⟩ | ⟨_, _, _, e⟩ | ⟨_, _, e⟩
  case inr.inl =>
    rw [e]
    exact hostTurn_next _
  case inr.inr.inl =>
    rw [e]
    exact sequencerTurn_next _
  all_goals exact ⟨_, e⟩

/-! ### BUSY (10_state.md R34) -/

/-- A running command's event either keeps BUSY and stays outside IDLE, or clears BUSY and goes to IDLE. -/
theorem busy_iff_stepEffect (h : s.status.busy = true ↔ s.seq ≠ .idle)
    (e : StepEffect s { s with prog := prog, turns := turns, rdata := rdata, mover := mover } t) :
    t.status.busy = true ↔ t.seq ≠ .idle := by
  cases e with
  | quiet | statusWritten | cfgWritten | dropped | illegal | issued | answered => exact h
  | acceptConfigure | acceptReadId | acceptSample | acceptDecode => exact iff_of_true rfl Seq.noConfusion
  | cfg1Ok _ _ hq | cfg2Ok _ _ hq => exact iff_of_true (h.mpr (by simp [hq])) Seq.noConfusion
  | reset | cfg3Ok | ridOk | smpOk | decoded | cfg1Fail | cfg2Fail | cfg3Fail | ridFail | smpFail =>
    exact iff_of_false Bool.false_ne_true (not_not.mpr rfl)

/-! ### A waiting request (60_exceptions.md R284) -/

/-- Only the Transport's answer and a reset take an issued request away. -/
theorem issued_kept_stepEffect (hinv : Inv s) (hp : s.pend = .issued req) (hreset : ¬Resets s)
    (hno : ∀ resp, s.turns.head? ≠ some (.transport resp))
    (e : StepEffect s { s with prog := prog, turns := turns, rdata := rdata, mover := mover } t) :
    t.pend = .issued req ∧ t.seq = s.seq ∧ t.status.busy = true := by
  have hr : requestOf s = some req := hinv.requestOf_issued hp
  have hb : s.status.busy = true := hinv.busy_iff.mpr (seq_ne_idle_of_requestOf hr)
  cases e with
  | quiet | statusWritten | cfgWritten | dropped | illegal => exact ⟨hp, rfl, hb⟩
  | reset h => exact absurd h hreset
  | answered _ resp h => exact absurd h (hno resp)
  | acceptConfigure ha | acceptReadId ha | acceptSample ha | acceptDecode _ ha =>
    cases hb.symm.trans (not_busy_of_accepts ha)
  | decoded hd => simp [requestOf, hd.2] at hr
  | issued _ _ hp' | cfg1Ok _ _ _ hp' | cfg2Ok _ _ _ hp' | cfg3Ok _ _ _ hp' | ridOk _ _ _ _ hp'
  | smpOk _ _ _ _ _ _ _ _ _ hp' | cfg1Fail _ _ _ _ _ hp' | cfg2Fail _ _ _ _ _ hp' | cfg3Fail _ _ _ _ _ hp'
  | ridFail _ _ _ _ _ hp' | smpFail _ _ _ _ _ hp' => cases hp.symm.trans hp'

/-! ### Results (20_memory.md R102) -/

/-- The result registers are written by the four completions and by reset. -/
theorem StepEffect.result_writers (e : StepEffect s u t)
    (hne : t.id ≠ u.id ∨ t.sx ≠ u.sx ∨ t.sy ≠ u.sy ∨ t.sz ≠ u.sz ∨ t.rawx ≠ u.rawx ∨ t.rawy ≠ u.rawy ∨
      t.rawz ≠ u.rawz ∨ t.dec ≠ u.dec ∨ t.latch ≠ u.latch) :
    Resets s ∨ (s.seq ≠ .idle ∧ t.status.busy = false ∧ t.status.done = true ∧ t.status.err = u.status.err ∧
      t.seq = .idle) := by
  cases e with
  | reset h => exact .inl h
  | cfg3Ok _ _ hq | ridOk _ _ _ hq | smpOk _ _ _ _ _ _ _ _ hq => exact .inr ⟨by simp [hq], rfl, rfl, rfl, rfl⟩
  | decoded h => exact .inr ⟨by simp [h.2], rfl, rfl, rfl, rfl⟩
  | _ => rcases hne with h | h | h | h | h | h | h | h | h <;> exact absurd rfl h

end

/-! ### The obligations -/

/-- Settles O31: the ROMs show the parameters, which no event writes. -/
theorem romsNeverChange : Obligations.RomsNeverChange := by
  intro s t off h h40 _
  obtain ⟨_, _, _, _, e⟩ := step_effect h
  exact hostRead_congr_of_params_eq .w32 e.params_kept h40

/-- Settles O35: every other event needs an empty or answered slot, or an idle block. -/
theorem unansweredRequestStaysPending : Obligations.UnansweredRequestStaysPending := by
  intro s t req hinv hp h hreset hno
  obtain ⟨_, _, _, _, e⟩ := step_effect h
  exact issued_kept_stepEffect hinv hp hreset hno e

/-- Settles O48: each agent's turn, and each command's meaning in it, answers a next state. -/
theorem stepNeverStops : Obligations.StepNeverStops := step_next

/-- Settles O51: an acceptance sets BUSY and leaves IDLE, an end of a command clears it and goes there. -/
theorem busyExactlyWhileRunning : Obligations.BusyExactlyWhileRunning := by
  refine ⟨inv_reset.busy_iff, fun s t hb h => ?_⟩
  obtain ⟨_, _, _, _, e⟩ := step_effect h
  exact busy_iff_stepEffect hb e

/-- Settles O56: of the events only a completion and a reset write a result, and while the command ran ERR was clear. -/
theorem resultsChangeOnlyAtCompletion : Obligations.ResultsChangeOnlyAtCompletion := by
  intro s t hinv h hreset hne
  obtain ⟨_, _, _, _, e⟩ := step_effect h
  obtain ⟨hq, hbusy, hdone, herr, hidle⟩ := (e.result_writers hne).resolve_left hreset
  obtain ⟨_, herr0, _⟩ := hinv.running_clear hq
  exact ⟨hinv.busy_iff.mpr hq, hbusy, hdone, herr.trans herr0, hidle⟩

end Sys2Proof.Machine
end

section
/-! PROOFS. The step by whose turn it is (00_scope.md section 5; 40_sequencer.md section 1), undefined accesses and
reads (20_memory.md section 1), the Transport (R91) and reset (70_reset_and_hazards.md R311). -/

namespace Sys2Proof.Machine

section
variable {s t : State} {i : Instr} {w : Word} {req : BusReq} {resp : BusResp} {rest : List Turn} {more : List HostOp}

/-! ### The step of each agent -/

/-- The Host's turn at a CMD write runs the decoded command. -/
theorem step_command (ht : s.turns = .host :: rest) (hp : s.prog = .write .w32 0x00 w :: more)
    (hw : decodeWord w = .cmd i) : step s = exec i { s with turns := rest, prog := more, mover := .host } := by
  rw [step_hostWrite ht hp, hostWrite_cmd, cmdWrite, hw]

/-- The Sequencer's turn runs the running command. -/
theorem step_sequencer (ht : s.turns = .sequencer :: rest) (hi : running s = some i) :
    step s = exec i { s with turns := rest, mover := .sequencer } := by
  rw [step, ht]
  change sequencerTurn _ = _
  rw [sequencerTurn, show running { s with turns := rest } = some i from hi]

theorem step_transport (ht : s.turns = .transport resp :: rest) :
    step s = .next (transportTurn resp { s with turns := rest }) := by
  simp only [step, ht, stepTurn]

theorem step_accept (ht : s.turns = .host :: rest) (hp : s.prog = .write .w32 0x00 w :: more)
    (hw : decodeWord w = .cmd i) (hb : s.status.busy = false) :
    step s = .next (acceptanceEffects i (accept i { s with turns := rest, prog := more, mover := .host })) :=
  (step_command ht hp hw).trans (exec_host_of_idle rfl hb)

theorem step_sequencerStep (ht : s.turns = .sequencer :: rest) (hi : running s = some i) :
    step s = .next (sequencerStep i { s with turns := rest, mover := .sequencer }) :=
  (step_sequencer ht hi).trans (exec_sequencer rfl)

theorem exists_running_of_requestOf (hr : requestOf s = some req) : ∃ i, running s = some i :=
  exists_running (seq_ne_idle_of_requestOf hr)

theorem step_issue (ht : s.turns = .sequencer :: rest) (hp : s.pend = .none) (hr : requestOf s = some req) :
    step s = .next (issue req { s with turns := rest, mover := .sequencer }) := by
  obtain ⟨i, hi⟩ := exists_running_of_requestOf hr
  exact (step_sequencer ht hi).trans (exec_issue rfl hi hp hr)

theorem transportTurn_fits (hp : s.pend = .issued req) (hf : respFits req resp = true) :
    transportTurn resp s = { s with pend := .answered req resp, trace := s.trace ++ [.resp resp] } := by
  rw [transportTurn, hp]
  exact if_pos hf

/-- With nothing waiting that the response fits, the Transport has no step. -/
theorem transportTurn_ignored (h : ∀ req, s.pend = .issued req → respFits req resp = false) :
    transportTurn resp s = s := by
  rcases transportTurn_cases resp s with e | ⟨req, hp, hf, _⟩
  · exact e
  · cases (h req hp).symm.trans hf

theorem step_answer (ht : s.turns = .transport resp :: rest) (hp : s.pend = .issued req)
    (hf : respFits req resp = true) :
    step s = .next { s with turns := rest, pend := .answered req resp, trace := s.trace ++ [.resp resp] } :=
  (step_transport ht).trans (congrArg _ (transportTurn_fits hp hf))

theorem step_unanswered (ht : s.turns = .transport resp :: rest)
    (h : ∀ req, s.pend = .issued req → respFits req resp = false) : step s = .next { s with turns := rest } :=
  (step_transport ht).trans (congrArg _ (transportTurn_ignored h))

/-! ### Undefined accesses (20_memory.md R82) -/

theorem accessDefined_iff {width : Width} {off : Word} :
    accessDefined width off = true ↔ width = .w32 ∧ off.toNat % 4 = 0 := by
  have hlow : off.extractLsb' 0 2 = 0 ↔ off.toNat % 4 = 0 := by
    rw [← BitVec.toNat_inj, BitVec.extractLsb'_toNat]
    rfl
  rw [accessDefined, decide_eq_true_iff, hlow]

theorem hostWrite_undefined {width : Width} {off v : Word}
    (h : width ≠ .w32 ∨ off.toNat % 4 ≠ 0 ∨ off.toNat ∉ [0x00, 0x04, 0x08]) : hostWrite width off v s = .next s := by
  rcases hostWrite_cases width off v s with ⟨rfl, rfl, _⟩ | ⟨rfl, rfl, _⟩ | ⟨rfl, rfl, _⟩ | e
  · exact absurd h (by decide)
  · exact absurd h (by decide)
  · exact absurd h (by decide)
  · exact e

/-- CMD, the reserved offset and what lies past the ROMs read 0. -/
theorem windowWord_unmapped {off : ℕ} (h : off = 0x00 ∨ off = 0x3C ∨ 0x90 ≤ off) : windowWord s off = 0 := by
  have hmap : ¬(0x40 ≤ off ∧ off < 0x80 ∧ off % 4 = 0) := by omega
  have hconst : ¬(0x80 ≤ off ∧ off < 0x90 ∧ off % 4 = 0) := by omega
  unfold windowWord
  split
  case h_15 => rw [if_neg hmap, if_neg hconst]
  all_goals omega

theorem hostRead_undefined {width : Width} {off : Word}
    (h : width ≠ .w32 ∨ off.toNat % 4 ≠ 0 ∨ off.toNat = 0x00 ∨ off.toNat = 0x3C ∨ 0x90 ≤ off.toNat) :
    hostRead s width off = 0 := by
  rw [hostRead]
  split
  · next hd =>
    obtain ⟨hw, h4⟩ := accessDefined_iff.mp hd
    exact windowWord_unmapped ((h.resolve_left (not_not.mpr hw)).resolve_left (not_not.mpr h4))
  · rfl

/-! ### Reads (20_memory.md R84; 30_encoding.md R151) -/

theorem step_hostTurn (ht : s.turns = .host :: rest) : step s = hostTurn { s with turns := rest } := by
  simp only [step, ht, stepTurn]

theorem step_read {width : Width} {off : Word} (ht : s.turns = .host :: rest)
    (hp : s.prog = .read width off :: more) :
    step s = .next { s with turns := rest, prog := more, rdata := hostRead s width off } := by
  rw [step_hostTurn ht, hostTurn, hp]
  rfl

/-- A POLL reads once and goes on when the value read passes. -/
theorem step_poll {off mask v : Word} (ht : s.turns = .host :: rest) (hp : s.prog = .poll off mask v :: more) :
    step s = .next { s with
      turns := rest
      prog  := if hostRead s .w32 off &&& mask = v then more else s.prog
      rdata := hostRead s .w32 off } := by
  rw [step_hostTurn ht, hostTurn, hp]
  by_cases hv : hostRead s .w32 off &&& mask = v
  · rw [if_pos hv]
    exact if_pos hv
  · rw [if_neg hv]
    exact if_neg hv

end

/-! ### The obligations -/

/-- Settles O5: the Host's turn, the Sequencer's, and the Host's turn at the placed word. -/
theorem stepRunsTheDecodedCommand : Obligations.StepRunsTheDecodedCommand :=
  ⟨fun _ _ _ _ _ ht hp hw => step_command ht hp hw, fun _ _ _ ht hi => step_sequencer ht hi,
    fun _ _ _ _ hw => step_command rfl rfl hw⟩

/-- Settles O7: acceptance, with each command's own effects. -/
theorem commandsAreAccepted : Obligations.CommandsAreAccepted := by
  intro s hm hb
  exact ⟨exec_host_of_idle hm hb, exec_host_of_idle hm hb, exec_host_of_idle hm hb, fun _ => exec_host_of_idle hm hb⟩

/-- Settles O9. -/
theorem busyDropsEveryCommand : Obligations.BusyDropsEveryCommand := fun _ _ hm hb => exec_host_of_busy hm hb

/-- Settles O26. -/
theorem undefinedAccessesDoNothing : Obligations.UndefinedAccessesDoNothing :=
  ⟨fun _ _ _ _ _ _ ht hp h => (step_hostWrite ht hp).trans (hostWrite_undefined h), fun _ _ _ => hostRead_undefined⟩

/-- Settles O27: a read, a POLL that passes and one that does not. -/
theorem readsChangeNothing : Obligations.ReadsChangeNothing := by
  refine ⟨fun s width off rest more ht hp => step_read ht hp, fun s off mask v rest more ht hp => ?_⟩
  constructor
  · intro hv
    rw [step_poll ht hp, if_pos hv]
  · intro hv
    rw [step_poll ht hp, if_neg hv]

/-- Settles O33: the waiting request is answered, anything else is ignored. -/
theorem transportAnswers : Obligations.TransportAnswers := by
  intro s resp rest ht
  exact ⟨fun req hp hf => step_answer ht hp hf, step_unanswered ht⟩

/-- Settles O37: the reset action, after which nothing waits for an answer. -/
theorem resetIsOneStep : Obligations.ResetIsOneStep := by
  intro s rest ht
  exact ⟨resetTurn { s with turns := rest }, by simp only [step, ht, stepTurn], rfl,
    fun resp more => step_unanswered rfl fun req hp => by cases hp⟩

end Sys2Proof.Machine
end

section
/-! PROOFS. Progress (70_reset_and_hazards.md R345; 20_memory.md R91): how many Sequencer and Transport steps a command
has left, and what brings it nearer its end. -/

namespace Sys2Proof.Machine

section
variable {s t : State} {i : Instr} {req : BusReq} {resp : BusResp}

/-! ### The bound (70_reset_and_hazards.md R345) -/

theorem stepsLeft_le_nine (s : State) : stepsLeft s ≤ 9 := by
  unfold stepsLeft
  cases s.seq <;> cases s.pend <;> simp

theorem stepsLeft_eq_zero_iff : stepsLeft s = 0 ↔ s.seq = .idle := by
  unfold stepsLeft
  cases s.seq <;> cases s.pend <;> simp

/-- The end of a command is the nearest it comes. -/
theorem stepsLeft_lt_of_idle (ht : t.seq = .idle) (hs : s.seq ≠ .idle) : stepsLeft t < stepsLeft s := by
  rw [stepsLeft_eq_zero_iff.mpr ht]
  exact Nat.pos_of_ne_zero (mt stepsLeft_eq_zero_iff.mp hs)

theorem stepsLeft_issue_lt (hp : s.pend = .none) (hr : requestOf s = some req) :
    stepsLeft (issue req s) < stepsLeft s := by
  cases hq : s.seq <;> simp only [requestOf, hq, reduceCtorEq] at hr <;> simp [stepsLeft, hq, hp]

theorem stepsLeft_answered_lt (hp : s.pend = .issued req) (hr : requestOf s = some req) (hseq : t.seq = s.seq)
    (hpend : t.pend = .answered req resp) : stepsLeft t < stepsLeft s := by
  cases hq : s.seq <;> simp only [requestOf, hq, reduceCtorEq] at hr <;> simp [stepsLeft, hseq, hpend, hq, hp]

theorem stepsLeft_cfg1Ok_lt (hq : s.seq = .cfg1) (hp : s.pend = .answered req resp) :
    stepsLeft { consume s with seq := .cfg2 } < stepsLeft s := by
  simp [stepsLeft, hq, hp]

theorem stepsLeft_cfg2Ok_lt (hq : s.seq = .cfg2) (hp : s.pend = .answered req resp) :
    stepsLeft (cfg2Done (consume s)) < stepsLeft s := by
  simp [stepsLeft, hq, hp]

/-- A well-formed answer to an RDSEQ of six is six bytes. -/
theorem exists_six_bytes {a : Byte} {bytes : List Byte} (hf : respFits (.rdseq a 6) (.ok bytes) = true) :
    ∃ b0 b1 b2 b3 b4 b5, bytes = [b0, b1, b2, b3, b4, b5] := by
  have hl : bytes.length = 6 := (respFits_rdseq_ok a 6 bytes).mp hf
  match bytes, hl with
  | [b0, b1, b2, b3, b4, b5], _ => exact ⟨b0, b1, b2, b3, b4, b5, rfl⟩

/-- A failure ends the command (60_exceptions.md R275). -/
theorem sequencerStep_seq_of_fail {p : Phase} {c : Byte} (hi : running s = some i) (hr : requestOf s = some req)
    (hp : s.pend = .answered req (.fail p c)) : (sequencerStep i s).seq = .idle := by
  cases hq : s.seq <;> simp only [running, requestOf, hq, Option.some.injEq, reduceCtorEq] at hi hr <;> subst hi
  case cfg1 => exact congrArg State.seq (configureStep_cfg1_fail hq hp)
  case cfg2 => exact congrArg State.seq (configureStep_cfg2_fail hq hp)
  case cfg3 => exact congrArg State.seq (configureStep_cfg3_fail hq hp)
  case rid => exact congrArg State.seq (readIdStep_fail hq hp)
  case smp => exact congrArg State.seq (sampleStep_fail hq hp)

/-- The running command takes up every well-formed answer: it goes on or ends (40_sequencer.md R173). -/
theorem stepsLeft_consume_lt (hi : running s = some i) (hr : requestOf s = some req)
    (hp : s.pend = .answered req resp) (hf : respFits req resp = true) :
    stepsLeft (sequencerStep i s) < stepsLeft s := by
  have hne : s.seq ≠ .idle := seq_ne_idle_of_requestOf hr
  cases resp with
  | fail p c => exact stepsLeft_lt_of_idle (sequencerStep_seq_of_fail hi hr hp) hne
  | ok bytes =>
    cases hq : s.seq <;> simp only [running, requestOf, hq, Option.some.injEq, reduceCtorEq] at hi hr <;> subst hi hr
    case cfg1 =>
      obtain rfl := (respFits_wr_ok _ _ bytes).mp hf
      rw [sequencerStep, configureStep_cfg1_ok hq hp]
      exact stepsLeft_cfg1Ok_lt hq hp
    case cfg2 =>
      obtain rfl := (respFits_wr_ok _ _ bytes).mp hf
      rw [sequencerStep, configureStep_cfg2_ok hq hp]
      exact stepsLeft_cfg2Ok_lt hq hp
    case cfg3 =>
      obtain rfl := (respFits_wr_ok _ _ bytes).mp hf
      exact stepsLeft_lt_of_idle (congrArg State.seq (configureStep_cfg3_ok hq hp)) hne
    case rid =>
      obtain ⟨b, rfl⟩ := (respFits_rd_ok _ bytes).mp hf
      exact stepsLeft_lt_of_idle (congrArg State.seq (readIdStep_ok hq hp)) hne
    case smp =>
      obtain ⟨b0, b1, b2, b3, b4, b5, rfl⟩ := exists_six_bytes hf
      exact stepsLeft_lt_of_idle (congrArg State.seq (sampleStep_ok hq hp)) hne

/-- A running command without a request is a DECODE, whose one step ends it (42_decoder.md R242). -/
theorem stepsLeft_decodeStep_lt (hi : running s = some i) (hr : requestOf s = none) :
    stepsLeft (sequencerStep i s) < stepsLeft s := by
  cases hq : s.seq <;> simp only [running, requestOf, hq, Option.some.injEq, reduceCtorEq] at hi hr
  subst hi
  exact stepsLeft_lt_of_idle (congrArg State.seq (decodeStep_dec hq)) (by simp [hq])

/-- With no answer to wait for, the Sequencer's step brings the command nearer its end. -/
theorem stepsLeft_sequencerStep_lt (hinv : Inv s) (hm : s.mover = .sequencer) (hi : running s = some i)
    (hp : ∀ req, s.pend ≠ .issued req) : stepsLeft (sequencerStep i s) < stepsLeft s := by
  have hf := hinv.pend_fits
  cases hpend : s.pend with
  | none =>
    cases hr : requestOf s with
    | none => exact stepsLeft_decodeStep_lt hi hr
    | some req =>
      rw [← Host.Outcome.next.inj ((exec_issue hm hi hpend hr).symm.trans (exec_sequencer hm))]
      exact stepsLeft_issue_lt hpend hr
  | issued req => exact absurd hpend (hp req)
  | answered req resp =>
    rw [pendFits, hpend] at hf
    obtain ⟨hr, hfits⟩ := hf
    exact stepsLeft_consume_lt hi hr hpend hfits

/-- No event but reset and an acceptance takes a command further from its end. -/
theorem stepsLeft_le_stepEffect {prog : List HostOp} {turns : List Turn} {rdata : Word} {mover : Mover} (hinv : Inv s)
    (hb : s.status.busy = true) (hreset : ¬Resets s)
    (e : StepEffect s { s with prog := prog, turns := turns, rdata := rdata, mover := mover } t) :
    stepsLeft t ≤ stepsLeft s := by
  have hne : s.seq ≠ .idle := hinv.busy_iff.mp hb
  cases e with
  | quiet | statusWritten | cfgWritten | dropped | illegal => exact le_rfl
  | reset h => exact absurd h hreset
  | acceptConfigure ha | acceptReadId ha | acceptSample ha | acceptDecode _ ha =>
    cases hb.symm.trans (not_busy_of_accepts ha)
  | issued req _ hp hr => exact (stepsLeft_issue_lt hp hr).le
  | answered req resp _ hp hf => exact Nat.le_of_lt (stepsLeft_answered_lt hp (hinv.requestOf_issued hp) rfl rfl)
  | cfg1Ok _ _ hq hp => exact (stepsLeft_cfg1Ok_lt hq hp).le
  | cfg2Ok _ _ hq hp => exact (stepsLeft_cfg2Ok_lt hq hp).le
  | cfg3Ok | ridOk | smpOk | decoded | cfg1Fail | cfg2Fail | cfg3Fail | ridFail | smpFail =>
    exact (stepsLeft_lt_of_idle rfl hne).le

end

/-! ### The obligations -/

/-- Settles O57: a Sequencer turn with no answer outstanding issues, takes up an answer or ends a DECODE, and an answer
to a waiting request is one step done. -/
theorem commandsMakeProgress : Obligations.CommandsMakeProgress := by
  intro s t hinv h
  refine ⟨stepsLeft_le_nine s, ?zero, ?le, ?sequencer, ?transport⟩
  case zero => rw [stepsLeft_eq_zero_iff, ← Bool.not_eq_true, hinv.busy_iff, not_not]
  case le =>
    intro hb hreset
    obtain ⟨_, _, _, _, e⟩ := step_effect h
    exact stepsLeft_le_stepEffect hinv hb hreset e
  case sequencer =>
    intro hb hturn hp
    obtain ⟨rest, ht⟩ := List.head?_eq_some_iff.mp hturn
    obtain ⟨i, hi⟩ := exists_running (hinv.busy_iff.mp hb)
    obtain rfl := Host.Outcome.next.inj ((step_sequencerStep ht hi).symm.trans h)
    exact stepsLeft_sequencerStep_lt (inv_agentsMoved hinv s.prog rest s.rdata .sequencer) rfl hi hp
  case transport =>
    intro req resp hp hf hturn
    obtain ⟨rest, ht⟩ := List.head?_eq_some_iff.mp hturn
    obtain rfl := Host.Outcome.next.inj ((step_answer ht hp hf).symm.trans h)
    exact stepsLeft_answered_lt hp (hinv.requestOf_issued hp) rfl rfl

end Sys2Proof.Machine
end

section
/-! PROOFS. Whole commands under a Transport that answers OK (70_reset_and_hazards.md R345): the acceptance, then each
request with its answer and the step that takes the answer up. -/

namespace Sys2Proof.Machine

section
variable {s t u : State} {i : Instr} {w : Word} {req : BusReq} {resp : BusResp} {rest : List Turn} {more : List HostOp}
  {a b : ℕ}

/-! ### Runs of the machine, put together -/

theorem run_succ {M : Host.Core} {s t : M.State} (h : M.step s = .next t) (k : ℕ) : M.run (k + 1) s = M.run k t := by
  rw [Host.Core.run, h]

/-- `k` steps lead from `s` to `t`, and a longer run goes on from there. -/
def Runs (k : ℕ) (s t : State) : Prop := ∀ j, core.run (j + k) s = core.run j t

theorem Runs.of_step (h : step s = .next t) : Runs 1 s t := run_succ (M := core) h

theorem Runs.trans (hst : Runs a s t) (htu : Runs b t u) : Runs (b + a) s u := fun j => by
  rw [← Nat.add_assoc, hst, htu]

theorem Runs.run_eq (h : Runs a s t) : core.run a s = .next t := by
  have h0 := h 0
  rwa [Nat.zero_add] at h0

/-! ### The parts of a command -/

theorem runs_accept (ht : s.turns = .host :: rest) (hp : s.prog = .write .w32 0x00 w :: more)
    (hw : decodeWord w = .cmd i) (hb : s.status.busy = false) :
    Runs 1 s (acceptanceEffects i (accept i { s with turns := rest, prog := more, mover := .host })) :=
  .of_step (step_accept ht hp hw hb)

/-- The state past a request and its answer. -/
def answeredAt (req : BusReq) (resp : BusResp) (rest : List Turn) (s : State) : State :=
  { s with
    turns := rest
    mover := .sequencer
    pend  := .answered req resp
    trace := s.trace ++ [.req req, .resp resp] }

theorem runs_request (ht : s.turns = .sequencer :: .transport resp :: rest) (hp : s.pend = .none)
    (hr : requestOf s = some req) (hf : respFits req resp = true) : Runs 2 s (answeredAt req resp rest s) := by
  have hanswer : step (issue req { s with turns := .transport resp :: rest, mover := .sequencer }) =
      .next (answeredAt req resp rest s) := by
    rw [step_answer rfl rfl hf, issue_trace, List.append_assoc]
    rfl
  exact (Runs.of_step (step_issue ht hp hr)).trans (.of_step hanswer)

/-- A request, its answer and the step that takes the answer up. -/
theorem runs_exchange (ht : s.turns = .sequencer :: .transport resp :: .sequencer :: rest) (hp : s.pend = .none)
    (hi : running s = some i) (hr : requestOf s = some req) (hf : respFits req resp = true) :
    Runs 3 s (sequencerStep i (answeredAt req resp rest s)) :=
  (runs_request ht hp hr hf).trans (.of_step (step_sequencerStep rfl hi))

theorem runs_cfg1 (ht : s.turns = .sequencer :: .transport (.ok []) :: .sequencer :: rest) (hq : s.seq = .cfg1)
    (hp : s.pend = .none) :
    Runs 3 s { consume (answeredAt (cfg1Req s) (.ok []) rest s) with seq := .cfg2 } := by
  rw [← configureStep_cfg1_ok (s := answeredAt (cfg1Req s) (.ok []) rest s) hq rfl]
  exact runs_exchange ht hp (by rw [running, hq]) (by rw [requestOf, hq]) rfl

theorem runs_cfg2 (ht : s.turns = .sequencer :: .transport (.ok []) :: .sequencer :: rest) (hq : s.seq = .cfg2)
    (hp : s.pend = .none) : Runs 3 s (cfg2Done (consume (answeredAt (cfg2Req s) (.ok []) rest s))) := by
  rw [← configureStep_cfg2_ok (s := answeredAt (cfg2Req s) (.ok []) rest s) hq rfl]
  exact runs_exchange ht hp (by rw [running, hq]) (by rw [requestOf, hq]) rfl

theorem runs_cfg3 (ht : s.turns = .sequencer :: .transport (.ok []) :: .sequencer :: rest) (hq : s.seq = .cfg3)
    (hp : s.pend = .none) : Runs 3 s (completeConfigure (consume (answeredAt (cfg3Req s) (.ok []) rest s))) := by
  rw [← configureStep_cfg3_ok (s := answeredAt (cfg3Req s) (.ok []) rest s) hq rfl]
  exact runs_exchange ht hp (by rw [running, hq]) (by rw [requestOf, hq]) rfl

end

/-! ### The obligations -/

/-- Settles O58: the acceptance and three exchanges. -/
theorem configureRunsToDone : Obligations.ConfigureRunsToDone := by
  intro s more rest hb hq hp hprog ht
  have haccept := runs_accept (i := .configure) ht hprog (decodeWord_encode .configure) hb
  have hdone := ((haccept.trans (runs_cfg1 rfl rfl hp)).trans (runs_cfg2 rfl rfl rfl)).trans (runs_cfg3 rfl rfl rfl)
  have htrace (e1 e2 e3 e4 e5 e6 : BusEvent) :
      s.trace ++ [e1, e2, e3, e4, e5, e6] = s.trace ++ [e1, e2] ++ [e3, e4] ++ [e5, e6] := by simp
  refine hdone.run_eq.trans ?_
  rw [hq, hp, htrace]
  rfl

/-- Settles O59: the acceptance and one exchange. -/
theorem sampleRunsToDone : Obligations.SampleRunsToDone := by
  intro s b0 b1 b2 b3 b4 b5 more rest hb hq hp hprog ht
  have haccept := runs_accept (i := .sample) ht hprog (decodeWord_encode .sample) hb
  have hdone := haccept.trans (runs_exchange rfl hp rfl rfl rfl)
  refine hdone.run_eq.trans ?_
  rw [hq, hp]
  rfl

/-- Settles O60: READ_ID is the acceptance and one exchange, DECODE the acceptance and one Sequencer turn. -/
theorem readIdAndDecodeRunToDone : Obligations.ReadIdAndDecodeRunToDone := by
  constructor
  · intro s b more rest hb hq hp hprog ht
    have haccept := runs_accept (i := .readId) ht hprog (decodeWord_encode .readId) hb
    have hdone := haccept.trans (runs_exchange rfl hp rfl rfl rfl)
    refine hdone.run_eq.trans ?_
    rw [hq, hp]
    rfl
  · intro s imm more rest hb hq hprog ht
    have haccept := runs_accept (i := .decode imm) ht hprog (decodeWord_encode (.decode imm)) hb
    have hdone := haccept.trans (.of_step (step_sequencerStep rfl rfl))
    refine hdone.run_eq.trans ?_
    rw [hq]
    rfl

end Sys2Proof.Machine
end

section
/-! PROOFS. The register layouts (10_state.md R33, R44, R50, R52, R53; 20_memory.md R81). Each word is its low fields
under a top part of any width, so that the concatenation keeps its widths while `simp` takes it apart. -/

namespace Sys2Proof.Machine

section
variable {n : ℕ} (top : BitVec n)

/-! ### The low fields under any top part -/

/-- The eight flags of STATUS (10_state.md R33). -/
theorem flags_layout (b7 b6 b5 b4 b3 b2 b1 b0 : Bool) :
    let w := top ++ BitVec.ofBool b7 ++ BitVec.ofBool b6 ++ BitVec.ofBool b5 ++ BitVec.ofBool b4 ++ BitVec.ofBool b3 ++
      BitVec.ofBool b2 ++ BitVec.ofBool b1 ++ BitVec.ofBool b0
    w.getLsbD 0 = b0 ∧ w.getLsbD 1 = b1 ∧ w.getLsbD 2 = b2 ∧ w.getLsbD 3 = b3 ∧ w.getLsbD 4 = b4 ∧
    w.getLsbD 5 = b5 ∧ w.getLsbD 6 = b6 ∧ w.getLsbD 7 = b7 ∧
    ∀ start len, w.extractLsb' (8 + start) len = top.extractLsb' start len := by
  simp (disch := omega) [-BitVec.getLsbD_eq_getElem, getLsbD_append_of_le, getLsbD_append_of_lt,
    BitVec.extractLsb'_append_eq_of_le, Nat.add_comm 8]

/-- The three codes of CFG and LATCH (10_state.md R44, R53). -/
theorem codes_layout (gsel : BitVec 2) (res : Bool) (odr : BitVec 3) :
    let w := top ++ gsel ++ BitVec.ofBool res ++ odr
    w.extractLsb' 0 3 = odr ∧ w.getLsbD 3 = res ∧ w.extractLsb' 4 2 = gsel ∧
    (∀ i, w.getLsbD (6 + i) = top.getLsbD i) ∧
    ∀ start len, w.extractLsb' (6 + start) len = top.extractLsb' start len := by
  simp (disch := omega) [-BitVec.getLsbD_eq_getElem, getLsbD_append_of_le, getLsbD_append_of_lt,
    BitVec.extractLsb'_append_eq_of_le, BitVec.extractLsb'_append_eq_right, Nat.add_comm 6]

/-- The fields of ERRINFO (10_state.md R52). -/
theorem errinfo_layout (eaddr : Byte) (ephase estep : BitVec 2) (gap : BitVec 1) (eop : BitVec 3) (tcode : Byte) :
    let w := top ++ eaddr ++ ephase ++ estep ++ gap ++ eop ++ tcode
    w.extractLsb' 0 8 = tcode ∧ w.extractLsb' 8 3 = eop ∧ w.getLsbD 11 = gap.getLsbD 0 ∧ w.extractLsb' 12 2 = estep ∧
    w.extractLsb' 14 2 = ephase ∧ w.extractLsb' 16 8 = eaddr ∧
    (∀ i, w.getLsbD (24 + i) = top.getLsbD i) ∧
    ∀ start len, w.extractLsb' (24 + start) len = top.extractLsb' start len := by
  simp (disch := omega) [-BitVec.getLsbD_eq_getElem, getLsbD_append_of_le, getLsbD_append_of_lt,
    BitVec.extractLsb'_append_eq_of_le, BitVec.extractLsb'_append_eq_right, Nat.add_comm 24]

end

/-- A flag over reserved bits. -/
theorem flag_layout (flag : Bool) (n : ℕ) :
    (BitVec.ofBool flag ++ 0#n).extractLsb' 0 n = 0 ∧ (BitVec.ofBool flag ++ 0#n).getLsbD n = flag := by
  refine ⟨BitVec.extractLsb'_append_eq_right, ?_⟩
  rw [getLsbD_append_of_le le_rfl]
  simp

/-- The three-bit code of an index is not the reserved one (30_encoding.md R135). -/
theorem odrBits_ne_seven (odr : Fin 7) : odrBits odr ≠ 7 := by
  revert odr
  decide

/-! ### The obligations -/

/-- Settles O28, register by register. -/
theorem registerLayouts : Obligations.RegisterLayouts := by
  intro s
  refine ⟨?status, ?cfg, ?ctrl1Img, ?errinfo, ?latch, rfl, rfl, rfl, rfl, rfl, rfl, rfl, rfl⟩
  case status =>
    obtain ⟨h0, h1, h2, h3, h4, h5, h6, h7, htop⟩ := flags_layout (0#16 ++ s.status.lastop) s.status.idvalid
      s.status.svalid s.status.drop s.status.ill s.status.active s.status.err s.status.done s.status.busy
    exact ⟨h0, h1, h2, h3, h4, h5, h6, h7, (htop 0 8).trans BitVec.extractLsb'_append_eq_right,
      (htop 8 16).trans BitVec.extractLsb'_append_eq_left⟩
  case cfg =>
    obtain ⟨hodr, hres, hgsel, _, htop⟩ := codes_layout 0#26 s.cfg.gsel.code s.cfg.res (odrBits s.cfg.odr)
    exact ⟨hodr, fun h => odrBits_ne_seven s.cfg.odr (hodr.symm.trans h), hres, hgsel,
      fun h => s.cfg.gsel.code_ne_three (hgsel.symm.trans h), (htop 0 26).trans BitVec.extractLsb'_eq_self⟩
  case ctrl1Img =>
    obtain ⟨hzero, hflag⟩ := flag_layout s.ctrl1Img.imgv 23
    exact ⟨BitVec.extractLsb'_append_eq_right, (BitVec.extractLsb'_append_eq_of_le (by decide)).trans hzero,
      (getLsbD_append_of_le (by decide)).trans hflag⟩
  case errinfo =>
    obtain ⟨hzero, hflag⟩ := flag_layout s.errinfo.evalid 7
    obtain ⟨htcode, heop, hgap, hestep, hephase, headdr, hbit, htop⟩ := errinfo_layout
      (BitVec.ofBool s.errinfo.evalid ++ 0#7) s.errinfo.eaddr s.errinfo.ephase s.errinfo.estep 0#1 s.errinfo.eop
      s.errinfo.tcode
    exact ⟨htcode, heop, hgap, hestep, hephase, headdr, (htop 0 7).trans hzero, (hbit 7).trans hflag⟩
  case latch =>
    obtain ⟨hzero, hflag⟩ := flag_layout s.latch.lvalid 25
    obtain ⟨hodr, hres, hgsel, hbit, htop⟩ := codes_layout (BitVec.ofBool s.latch.lvalid ++ 0#25) s.latch.lgsel.code
      s.latch.lres (odrBits s.latch.lodr)
    exact ⟨hodr, hres, hgsel, (htop 0 25).trans hzero, (hbit 25).trans hflag⟩

end Sys2Proof.Machine
end

section
/-! PROOFS. Rounding to binary32 (00_scope.md R13; 41_acquisition.md R214, R221): the integer nearest a fraction, the
exponent of a significand's last place, and the bits they make. -/

namespace Sys2Proof.Machine

section
variable {num den : ℕ}

/-! ### The integer nearest a fraction -/

/-- `n` is a nearest integer of `x`, and the even one where two are as near. -/
structure NearestEven (x : ℚ) (n : ℕ) : Prop where
  le_half : |x - n| ≤ 1 / 2
  even_of_half : |x - n| = 1 / 2 → n % 2 = 0

/-- A fraction is its quotient and the rest over the denominator. -/
theorem div_eq_quotient_add_rest (hden : den ≠ 0) :
    (num : ℚ) / den = (num / den : ℕ) + (num % den : ℕ) / (den : ℚ) := by
  have hden' : (den : ℚ) ≠ 0 := Nat.cast_ne_zero.mpr hden
  have h : (num : ℚ) = den * (num / den : ℕ) + (num % den : ℕ) := by exact_mod_cast (Nat.div_add_mod num den).symm
  rw [eq_comm, eq_div_iff hden', add_mul, div_mul_cancel₀ _ hden', mul_comm, ← h]

theorem divNearestEven_nearest (num : ℕ) (hden : den ≠ 0) : NearestEven (num / den) (divNearestEven num den) := by
  have hpos : (0 : ℚ) < den := Nat.cast_pos.mpr (Nat.pos_of_ne_zero hden)
  have hrest : (0 : ℚ) ≤ (num % den : ℕ) / (den : ℚ) := by positivity
  have hrest1 : (num % den : ℕ) / (den : ℚ) < 1 := by
    rw [div_lt_one hpos]
    exact_mod_cast Nat.mod_lt num (Nat.pos_of_ne_zero hden)
  have hlt : (num % den : ℕ) / (den : ℚ) < 1 / 2 ↔ 2 * (num % den) < den := by
    rw [div_lt_div_iff₀ hpos two_pos, mul_comm, one_mul]
    exact_mod_cast Iff.rfl
  have hgt : 1 / 2 < (num % den : ℕ) / (den : ℚ) ↔ den < 2 * (num % den) := by
    rw [div_lt_div_iff₀ two_pos hpos, mul_comm _ (2 : ℚ), one_mul]
    exact_mod_cast Iff.rfl
  rw [div_eq_quotient_add_rest hden, divNearestEven]
  generalize (num % den : ℕ) / (den : ℚ) = rest at *
  generalize num % den = r at *
  generalize num / den = q at *
  split_ifs with h1 h2
  · have := hlt.mpr h1
    have habs : |(q : ℚ) + rest - q| = rest := by rw [add_sub_cancel_left, abs_of_nonneg hrest]
    exact ⟨by linarith, fun h => by linarith⟩
  · have := hgt.mpr h2
    have habs : |(q : ℚ) + rest - (q + 1 : ℕ)| = 1 - rest := by
      rw [abs_of_nonpos] <;> push_cast <;> linarith
    exact ⟨by linarith, fun h => by linarith⟩
  · have hhalf : rest = 1 / 2 := le_antisymm (not_lt.mp (mt hgt.mp h2)) (not_lt.mp (mt hlt.mp h1))
    refine ⟨?_, fun _ => by omega⟩
    rcases Nat.mod_two_eq_zero_or_one q with hq | hq
    · rw [hq, add_zero, hhalf, add_sub_cancel_left, abs_of_pos one_half_pos]
    · rw [hq, hhalf, abs_le]
      constructor <;> push_cast <;> linarith

/-- No integer is nearer, and one that is as near lies a half away. -/
theorem NearestEven.le_abs_sub {x : ℚ} {n : ℕ} (h : NearestEven x n) (z : ℤ) :
    |x - n| ≤ |x - z| ∧ (z ≠ n → |x - n| = |x - z| → n % 2 = 0) := by
  by_cases hz : z = n
  · subst hz
    exact ⟨le_rfl, fun hne => absurd rfl hne⟩
  · have hone : (1 : ℚ) ≤ |(n : ℚ) - z| := by
      have : (1 : ℤ) ≤ |(n : ℤ) - z| := Int.one_le_abs (sub_ne_zero.mpr (Ne.symm hz))
      exact_mod_cast this
    have htri : |(n : ℚ) - z| ≤ |x - n| + |x - z| := by
      rw [abs_sub_comm x n]
      exact abs_sub_le _ _ _
    have hhalf := h.le_half
    exact ⟨by linarith, fun _ heq => h.even_of_half (by linarith)⟩

/-- Below an even integer only what is more than a half below it is rounded. -/
theorem NearestEven.lt_iff {x : ℚ} {n N : ℕ} (h : NearestEven x n) (hN : N % 2 = 0) : n < N ↔ x < N - 1 / 2 := by
  obtain ⟨hlo, hhi⟩ := abs_le.mp h.le_half
  constructor
  · intro hlt
    have hsucc : (n : ℚ) + 1 ≤ N := by exact_mod_cast hlt
    refine lt_of_le_of_ne (by linarith) fun hx => ?_
    have hhalf : x - n = 1 / 2 := by linarith
    have hn : (N : ℚ) = n + 1 := by linarith
    have hn : N = n + 1 := by exact_mod_cast hn
    have := h.even_of_half (by rw [hhalf, abs_of_pos one_half_pos])
    omega
  · intro hx
    have : (n : ℚ) < N := by linarith
    exact_mod_cast this

/-! ### The exponent of the last place -/

theorem zpow_two_eq_div (e : ℤ) : (2 : ℚ) ^ e = (2 ^ e.toNat : ℕ) / (2 ^ (-e).toNat : ℕ) := by
  rcases le_total 0 e with h | h
  · obtain ⟨n, rfl⟩ := Int.eq_ofNat_of_zero_le h
    simp
  · obtain ⟨n, hn⟩ := Int.eq_ofNat_of_zero_le (neg_nonneg.mpr h)
    obtain rfl : e = -n := by omega
    simp

/-- Scaling a fraction by a power of two, numerator and denominator apart. -/
theorem scaled_div (num den : ℕ) (k : ℤ) :
    ((num * 2 ^ (-k).toNat : ℕ) : ℚ) / (den * 2 ^ k.toNat : ℕ) = num / den / 2 ^ k := by
  rw [zpow_two_eq_div, Nat.cast_mul, Nat.cast_mul, div_div_div_eq]

/-- The difference of the two logarithms is the exponent or one above it. -/
theorem log2_sub_bounds (hnum : num ≠ 0) (hden : den ≠ 0) :
    (2 : ℚ) ^ ((num.log2 : ℤ) - den.log2 - 1) ≤ num / den ∧ (num : ℚ) / den < 2 ^ ((num.log2 : ℤ) - den.log2 + 1) := by
  have hpos : (0 : ℚ) < den := Nat.cast_pos.mpr (Nat.pos_of_ne_zero hden)
  have hnum_ge : (2 : ℚ) ^ num.log2 ≤ num := by exact_mod_cast Nat.log2_self_le hnum
  have hnum_lt : (num : ℚ) < 2 ^ (num.log2 + 1) := by exact_mod_cast Nat.lt_log2_self
  have hden_ge : (2 : ℚ) ^ den.log2 ≤ den := by exact_mod_cast Nat.log2_self_le hden
  have hden_lt : (den : ℚ) < 2 ^ (den.log2 + 1) := by exact_mod_cast Nat.lt_log2_self
  constructor
  · rw [show (num.log2 : ℤ) - den.log2 - 1 = num.log2 - (den.log2 + 1 : ℕ) by push_cast; ring, zpow_sub₀ two_ne_zero,
      zpow_natCast, zpow_natCast]
    exact div_le_div₀ (by positivity) hnum_ge hpos hden_lt.le
  · rw [show (num.log2 : ℤ) - den.log2 + 1 = (num.log2 + 1 : ℕ) - den.log2 by push_cast; ring, zpow_sub₀ two_ne_zero,
      zpow_natCast, zpow_natCast]
    exact div_lt_div₀ hnum_lt hden_ge (by positivity) (by positivity)

theorem pow_mul_le_iff (hden : den ≠ 0) (e : ℤ) :
    den * 2 ^ e.toNat ≤ num * 2 ^ (-e).toNat ↔ (2 : ℚ) ^ e ≤ num / den := by
  have hpos : (0 : ℚ) < den := Nat.cast_pos.mpr (Nat.pos_of_ne_zero hden)
  rw [zpow_two_eq_div, div_le_div_iff₀ (by positivity) hpos, mul_comm _ (den : ℚ)]
  exact_mod_cast Iff.rfl

theorem floorLog2Ratio_spec (hnum : num ≠ 0) (hden : den ≠ 0) :
    (2 : ℚ) ^ floorLog2Ratio num den ≤ num / den ∧ (num : ℚ) / den < 2 ^ (floorLog2Ratio num den + 1) := by
  obtain ⟨hge, hlt⟩ := log2_sub_bounds hnum hden
  rw [floorLog2Ratio]
  split
  · next h => exact ⟨(pow_mul_le_iff hden _).mp h, hlt⟩
  · next h =>
    rw [sub_add_cancel]
    exact ⟨hge, not_le.mp (mt (pow_mul_le_iff hden _).mpr h)⟩

/-- The last place is as fine as 24 bits and the range allow: 24 bits reach past the number, and 23 do not unless it
is below the normal range. -/
theorem ulpExponent_spec (hnum : num ≠ 0) (hden : den ≠ 0) :
    -149 ≤ ulpExponent num den ∧ (num : ℚ) / den < 2 ^ (ulpExponent num den + 24) ∧
      (ulpExponent num den = -149 ∨ (2 : ℚ) ^ (ulpExponent num den + 23) ≤ num / den) := by
  obtain ⟨hge, hlt⟩ := floorLog2Ratio_spec hnum hden
  have hmono : (2 : ℚ) ^ (floorLog2Ratio num den + 1) ≤ 2 ^ (ulpExponent num den + 24) :=
    zpow_le_zpow_right₀ one_le_two (by rw [ulpExponent]; omega)
  refine ⟨le_max_right _ _, hlt.trans_le hmono, ?_⟩
  rcases le_total (floorLog2Ratio num den - 23) (-149) with h | h
  · exact .inl (max_eq_right h)
  · rw [ulpExponent, max_eq_left h, sub_add_cancel]
    exact .inr hge

/-! ### The significand and the bits below the sign -/

/-- The significand of `num / den` at the exponent of its last place. -/
def significand (num den : ℕ) : ℕ :=
  divNearestEven (num * 2 ^ (-ulpExponent num den).toNat) (den * 2 ^ (ulpExponent num den).toNat)

@[simp] theorem rne32Magnitude_zero (den : ℕ) : rne32Magnitude 0 den = 0 := rfl

theorem rne32Magnitude_eq (hnum : num ≠ 0) : rne32Magnitude num den =
    min ((ulpExponent num den + 149).toNat * 2 ^ 23 + significand num den) 0x7F800000 := by
  rw [rne32Magnitude, if_neg hnum]
  rfl

theorem significand_nearest (hden : den ≠ 0) :
    NearestEven ((num : ℚ) / den / 2 ^ ulpExponent num den) (significand num den) := by
  rw [← scaled_div]
  exact divNearestEven_nearest _ (by positivity)

theorem significand_le (hnum : num ≠ 0) (hden : den ≠ 0) : significand num den ≤ 2 ^ 24 := by
  obtain ⟨_, hlt, _⟩ := ulpExponent_spec hnum hden
  obtain ⟨hlo, hhi⟩ := abs_le.mp (significand_nearest (num := num) hden).le_half
  rw [zpow_add₀ two_ne_zero, mul_comm, ← div_lt_iff₀ (by positivity)] at hlt
  have h : (significand num den : ℚ) < 2 ^ 24 + 1 := by
    norm_num at hlt
    linarith
  exact Nat.lt_succ_iff.mp (by exact_mod_cast h)

theorem le_significand (hden : den ≠ 0) (h : (2 : ℚ) ^ (ulpExponent num den + 23) ≤ num / den) :
    2 ^ 23 ≤ significand num den := by
  obtain ⟨hlo, hhi⟩ := abs_le.mp (significand_nearest (num := num) hden).le_half
  rw [zpow_add₀ two_ne_zero, mul_comm, ← le_div_iff₀ (by positivity)] at h
  have h : (2 : ℚ) ^ 23 < significand num den + 1 := by
    norm_num at h
    linarith
  exact Nat.lt_succ_iff.mp (by exact_mod_cast h)

/-! ### The value of the bits below the sign (41_acquisition.md R221) -/

/-- The significand and the exponent of the bits below the sign: the fields of `finite32`. -/
def magnitudeMant (m : ℕ) : ℕ := if m / 2 ^ 23 = 0 then m else 2 ^ 23 + m % 2 ^ 23

def magnitudeExpo (m : ℕ) : ℤ := if m / 2 ^ 23 = 0 then -149 else ((m / 2 ^ 23 : ℕ) : ℤ) - 150

def magnitudeValue (m : ℕ) : ℚ := magnitudeMant m * 2 ^ magnitudeExpo m

@[simp] theorem magnitudeValue_zero : magnitudeValue 0 = 0 := by
  simp [magnitudeValue, magnitudeMant]

/-- The bits of a significand at an exponent stand for it, with a carry into the next exponent too. -/
theorem magnitudeValue_bits {j q : ℕ} (hle : q ≤ 2 ^ 24) (hge : j = 0 ∨ 2 ^ 23 ≤ q) :
    magnitudeValue (j * 2 ^ 23 + q) = q * 2 ^ ((j : ℤ) - 149) := by
  rcases lt_or_ge q (2 ^ 23) with hq | hq
  · obtain rfl : j = 0 := hge.resolve_right (by omega)
    rw [magnitudeValue, magnitudeMant, magnitudeExpo, if_pos (by omega), if_pos (by omega), zero_mul, zero_add]
    norm_num
  · rcases hle.lt_or_eq with hlt | rfl
    · have hdiv : (j * 2 ^ 23 + q) / 2 ^ 23 = j + 1 := by omega
      have hmod : 2 ^ 23 + (j * 2 ^ 23 + q) % 2 ^ 23 = q := by omega
      rw [magnitudeValue, magnitudeMant, magnitudeExpo, hdiv, if_neg (by omega), if_neg (by omega), hmod,
        show ((j + 1 : ℕ) : ℤ) - 150 = j - 149 by omega]
    · have hdiv : (j * 2 ^ 23 + 2 ^ 24) / 2 ^ 23 = j + 2 := by omega
      have hmod : (j * 2 ^ 23 + 2 ^ 24) % 2 ^ 23 = 0 := by omega
      rw [magnitudeValue, magnitudeMant, magnitudeExpo, hdiv, if_neg (by omega), if_neg (by omega), hmod,
        show ((j + 2 : ℕ) : ℤ) - 150 = j - 149 + 1 by omega, zpow_add_one₀ two_ne_zero]
      push_cast
      ring

theorem magnitudeValue_rne32Magnitude (hnum : num ≠ 0) (hden : den ≠ 0) (h : rne32Magnitude num den < 0x7F800000) :
    magnitudeValue (rne32Magnitude num den) = significand num den * 2 ^ ulpExponent num den := by
  obtain ⟨hk, _, hnormal⟩ := ulpExponent_spec hnum hden
  rw [rne32Magnitude_eq hnum] at h ⊢
  rw [min_eq_left (by omega), magnitudeValue_bits (significand_le hnum hden), Int.toNat_of_nonneg (by omega),
    add_sub_cancel_right]
  rcases hnormal with h149 | hge
  · exact .inl (by omega)
  · exact .inr (le_significand hden hge)

/-- Below the overflow bound the rounded bits are a finite number's, and from it on they are infinity's. -/
theorem rne32Magnitude_lt_iff (hden : den ≠ 0) :
    rne32Magnitude num den < 0x7F800000 ↔ (num : ℚ) / den < (2 ^ 24 - 1 / 2) * 2 ^ 104 := by
  rcases eq_or_ne num 0 with rfl | hnum
  · exact iff_of_true (by simp) (by norm_num)
  obtain ⟨hk, hlt, hnormal⟩ := ulpExponent_spec hnum hden
  have hle := significand_le hnum hden
  have hnear := significand_nearest (num := num) hden
  have hge : ulpExponent num den ≠ -149 → 2 ^ 23 ≤ significand num den := fun hne =>
    le_significand hden (hnormal.resolve_left hne)
  rw [rne32Magnitude_eq hnum]
  generalize ulpExponent num den = k at *
  generalize significand num den = q at *
  generalize (num : ℚ) / den = x at *
  rcases lt_trichotomy k 104 with hlow | rfl | hhigh
  · refine iff_of_true (by omega) (hlt.trans_le ?_)
    calc (2 : ℚ) ^ (k + 24) ≤ 2 ^ (127 : ℤ) := zpow_le_zpow_right₀ one_le_two (by omega)
      _ ≤ (2 ^ 24 - 1 / 2) * 2 ^ 104 := by norm_num
  · have hscale : x < (2 ^ 24 - 1 / 2) * 2 ^ 104 ↔ x / 2 ^ (104 : ℤ) < 2 ^ 24 - 1 / 2 := by
      rw [div_lt_iff₀ (by positivity)]
      norm_num
    rw [hscale, ← show q < 2 ^ 24 ↔ x / 2 ^ (104 : ℤ) < 2 ^ 24 - 1 / 2 by exact_mod_cast hnear.lt_iff (by decide)]
    omega
  · have hbig : (2 : ℚ) ^ (128 : ℤ) ≤ x :=
      (zpow_le_zpow_right₀ one_le_two (by omega)).trans (hnormal.resolve_left (by omega))
    have := hge (by omega)
    refine iff_of_false (by omega) (not_lt.mpr (le_trans ?_ hbig))
    norm_num

/-- A number from 2^-126 on rounds to normal bits. -/
theorem le_rne32Magnitude (hnum : num ≠ 0) (hden : den ≠ 0) (h : (2 : ℚ) ^ (-126 : ℤ) ≤ num / den) :
    2 ^ 23 ≤ rne32Magnitude num den := by
  obtain ⟨_, _, hnormal⟩ := ulpExponent_spec hnum hden
  have hq : 2 ^ 23 ≤ significand num den := by
    rcases hnormal with h149 | hge
    · exact le_significand hden (by rwa [h149])
    · exact le_significand hden hge
  rw [rne32Magnitude_eq hnum]
  omega

/-! ### The nearest binary32 value -/

/-- The values of the finite binary32 words: a significand of at most 24 bits, of either sign, at an exponent from -149
on. -/
def IsBinary32 (y : ℚ) : Prop := ∃ (n e : ℤ), |n| < 2 ^ 24 ∧ -149 ≤ e ∧ y = n * 2 ^ e

theorem IsBinary32.neg {y : ℚ} (h : IsBinary32 y) : IsBinary32 (-y) := by
  obtain ⟨n, e, hn, he, rfl⟩ := h
  exact ⟨-n, e, by rwa [abs_neg], he, by push_cast; ring⟩

/-- Values on the grid of the last place are integer multiples of it. -/
theorem significand_nearest_on_grid (hden : den ≠ 0) (z : ℤ) :
    let x : ℚ := num / den
    let k : ℤ := ulpExponent num den
    |x - significand num den * 2 ^ k| ≤ |x - z * 2 ^ k| ∧
      (z ≠ significand num den → |x - significand num den * 2 ^ k| = |x - z * 2 ^ k| →
        significand num den % 2 = 0) := by
  intro x k
  have hk : (2 : ℚ) ^ k ≠ 0 := by positivity
  have hscale (a : ℚ) : |x - a * 2 ^ k| = |x / 2 ^ k - a| * 2 ^ k := by
    rw [← abs_of_pos (show (0 : ℚ) < 2 ^ k by positivity), ← abs_mul, abs_of_pos (show (0 : ℚ) < 2 ^ k by positivity),
      sub_mul, div_mul_cancel₀ _ hk]
  obtain ⟨hle, heven⟩ := (significand_nearest (num := num) hden).le_abs_sub z
  rw [hscale, hscale]
  exact ⟨mul_le_mul_of_nonneg_right hle (by positivity), fun hne heq => heven hne (mul_right_cancel₀ hk heq)⟩

/-- Values below the grid of the last place lie beyond its lowest 24-bit point, so that point is nearer. -/
theorem significand_nearer_than_below_grid (hden : den ≠ 0)
    (hx : (2 : ℚ) ^ (ulpExponent num den + 23) ≤ num / den) {n e : ℤ} (hn : |n| < 2 ^ 24)
    (he : e < ulpExponent num den) :
    |(num : ℚ) / den - significand num den * 2 ^ ulpExponent num den| < |(num : ℚ) / den - n * 2 ^ e| := by
  have hy : (n : ℚ) * 2 ^ e < 2 ^ (ulpExponent num den + 23) := by
    have hn : (n : ℚ) < 2 ^ 24 := by exact_mod_cast (abs_lt.mp hn).2
    calc (n : ℚ) * 2 ^ e < 2 ^ 24 * 2 ^ e := mul_lt_mul_of_pos_right hn (by positivity)
      _ = 2 ^ (e + 24) := by rw [zpow_add₀ two_ne_zero, mul_comm]; norm_num
      _ ≤ 2 ^ (ulpExponent num den + 23) := zpow_le_zpow_right₀ one_le_two (by omega)
  have hedge : ((2 ^ 23 : ℤ) : ℚ) * 2 ^ ulpExponent num den = 2 ^ (ulpExponent num den + 23) := by
    rw [zpow_add₀ two_ne_zero, mul_comm]
    norm_num
  obtain ⟨hle, _⟩ := significand_nearest_on_grid (num := num) hden (2 ^ 23)
  rw [hedge, abs_of_nonneg (sub_nonneg.mpr hx)] at hle
  rw [abs_of_pos (show 0 < (num : ℚ) / den - n * 2 ^ e by linarith)]
  linarith

/-- No binary32 value is nearer than the rounded one, on the grid of the last place and below it. -/
theorem rne32Magnitude_nearest (hden : den ≠ 0) (h : rne32Magnitude num den < 0x7F800000) {y : ℚ}
    (hy : IsBinary32 y) :
    let x : ℚ := num / den
    let m : ℕ := rne32Magnitude num den
    |x - magnitudeValue m| ≤ |x - y| ∧ (y ≠ magnitudeValue m → |x - magnitudeValue m| = |x - y| → m % 2 = 0) := by
  intro x m
  rcases eq_or_ne num 0 with rfl | hnum
  · have hx : x - magnitudeValue m = 0 := by simp [x, m]
    exact ⟨by rw [hx, abs_zero]; exact abs_nonneg _, fun _ _ => rfl⟩
  obtain ⟨hk, _, hnormal⟩ := ulpExponent_spec hnum hden
  have hm : m = (ulpExponent num den + 149).toNat * 2 ^ 23 + significand num den := by
    have := rne32Magnitude_eq (den := den) hnum
    omega
  have heven : significand num den % 2 = 0 → m % 2 = 0 := by omega
  rw [show magnitudeValue m = _ from magnitudeValue_rne32Magnitude hnum hden h]
  obtain ⟨n, e, hn, he, rfl⟩ := hy
  rcases le_or_gt (ulpExponent num den) e with hke | hke
  · obtain ⟨a, rfl⟩ := Int.le.dest hke
    have hy : (n : ℚ) * 2 ^ (ulpExponent num den + (a : ℤ)) = (n * 2 ^ a : ℤ) * 2 ^ ulpExponent num den := by
      rw [zpow_add₀ two_ne_zero, zpow_natCast]
      push_cast
      ring
    obtain ⟨hle, htie⟩ := significand_nearest_on_grid (num := num) hden (n * 2 ^ a)
    rw [hy]
    exact ⟨hle, fun hne heq => heven (htie (fun hz => hne (by rw [hz]; push_cast; rfl)) heq)⟩
  · have hlt := significand_nearer_than_below_grid hden (hnormal.resolve_left (by omega)) hn hke
    exact ⟨hlt.le, fun _ heq => absurd heq hlt.ne⟩

end
end Sys2Proof.Machine
end

section
/-! PROOFS. The conversion (41_acquisition.md R214, R218, R222): its sign, its divisors, and the rounded quotient. -/

namespace Sys2Proof.Machine

section
variable {r : Half} {d w : Word} {v : ℚ} {m : ℕ} {neg : Bool}

/-! ### A word of a sign and the bits below it -/

theorem signedWord_sign (neg : Bool) (m : ℕ) : (signedWord neg m).getLsbD 31 = neg := by
  rw [signedWord, getLsbD_append_of_le (by decide)]
  simp

theorem signedWord_exponent (neg : Bool) (hm : m < 2 ^ 31) :
    ((signedWord neg m).extractLsb' 23 8).toNat = m / 2 ^ 23 := by
  rw [signedWord, BitVec.extractLsb'_append_eq_of_add_le (by decide), BitVec.extractLsb'_toNat, BitVec.toNat_ofNat,
    Nat.mod_eq_of_lt hm, Nat.shiftRight_eq_div_pow, Nat.mod_eq_of_lt (by omega)]

theorem signedWord_fraction (neg : Bool) (m : ℕ) :
    ((signedWord neg m).extractLsb' 0 23).toNat = m % 2 ^ 23 := by
  rw [signedWord, BitVec.extractLsb'_append_eq_of_add_le (by decide), BitVec.extractLsb'_toNat, BitVec.toNat_ofNat,
    Nat.shiftRight_zero]
  omega

theorem signedWord_last_bit (neg : Bool) (hm : m % 2 = 0) : (signedWord neg m).getLsbD 0 = false := by
  rw [signedWord, getLsbD_append_of_lt (by decide), BitVec.getLsbD_ofNat, Nat.testBit_zero, hm]
  rfl

theorem signedWord_not (neg : Bool) (m : ℕ) : signedWord (!neg) m = signedWord neg m ^^^ 0x80000000 := by
  have hmask : (0x80000000 : Word) = BitVec.ofBool true ++ 0#31 := by decide
  rw [signedWord, signedWord, hmask, BitVec.xor_append, BitVec.xor_zero]
  cases neg <;> rfl

/-! ### The sign as a factor -/

def signOf (neg : Bool) : ℚ := if neg then -1 else 1

theorem signOf_bne (a b : Bool) : signOf (a != b) = signOf a * signOf b := by
  cases a <;> cases b <;> norm_num [signOf]

theorem signOf_mul_self (neg : Bool) : signOf neg * signOf neg = 1 := by
  cases neg <;> norm_num [signOf]

theorem abs_signOf (neg : Bool) : |signOf neg| = 1 := by
  cases neg <;> norm_num [signOf]

theorem signOf_div (neg : Bool) (a b : ℚ) : a / (signOf neg * b) = signOf neg * (a / b) := by
  cases neg <;> simp [signOf, div_neg]

theorem signOf_mul_neg_iff (neg : Bool) {a : ℚ} (ha : 0 < a) : signOf neg * a < 0 ↔ neg = true := by
  cases neg <;> simp [signOf, ha, ha.le]

theorem toInt_eq_signOf (r : Half) : (r.toInt : ℚ) = signOf r.msb * r.toInt.natAbs := by
  rw [BitVec.msb_eq_toInt, signOf, Nat.cast_natAbs]
  rcases lt_or_ge r.toInt 0 with h | h
  · simp [h, abs_of_neg h]
  · simp [not_lt.mpr h, abs_of_nonneg h]

/-! ### The value of a word -/

theorem finite32_signedWord (neg : Bool) (hm : m < 0x7F800000) :
    finite32 (signedWord neg m) = some ⟨neg, magnitudeMant m, magnitudeExpo m⟩ := by
  have hfrac : m / 2 ^ 23 = 0 → m % 2 ^ 23 = m := by omega
  rw [finite32, signedWord_exponent neg (by omega), signedWord_fraction, signedWord_sign, magnitudeMant, magnitudeExpo,
    if_neg (by omega)]
  split_ifs with he
  · rw [hfrac he]
  · rfl

theorem f32Value_signedWord (neg : Bool) (hm : m < 0x7F800000) :
    f32Value (signedWord neg m) = some (signOf neg * magnitudeValue m) := by
  rw [f32Value, finite32_signedWord neg hm, Option.map_some, magnitudeValue, ← mul_assoc]
  rfl

theorem finite32_bounds {f : Finite32} (h : finite32 w = some f) : f.mant < 2 ^ 24 ∧ -149 ≤ f.expo := by
  have hfrac : (w.extractLsb' 0 23).toNat < 2 ^ 23 := BitVec.isLt _
  simp only [finite32] at h
  split_ifs at h <;> obtain rfl := Option.some.inj h
  · exact ⟨by dsimp only; omega, le_rfl⟩
  · dsimp only
    omega

/-- A finite word and the fields that give its value. -/
theorem exists_finite32 (h : f32Value w = some v) :
    ∃ f, finite32 w = some f ∧ v = signOf f.neg * (f.mant * 2 ^ f.expo) := by
  obtain ⟨f, hf, rfl⟩ := Option.map_eq_some_iff.mp h
  exact ⟨f, hf, mul_assoc ..⟩

theorem isBinary32_of_f32Value (h : f32Value w = some v) : IsBinary32 v := by
  obtain ⟨f, hf, rfl⟩ := exists_finite32 h
  obtain ⟨hmant, hexpo⟩ := finite32_bounds hf
  have hpos : IsBinary32 (f.mant * 2 ^ f.expo) :=
    ⟨f.mant, f.expo, by rw [Nat.abs_cast]; exact_mod_cast hmant, hexpo, rfl⟩
  cases f.neg
  · rwa [signOf, if_neg Bool.false_ne_true, one_mul]
  · rw [signOf, if_pos rfl, neg_one_mul]
    exact hpos.neg

/-! ### A conversion by a finite non-zero divisor -/

/-- A conversion has the sign of the quotient and the rounded bits of its magnitude, a fraction of natural numbers. -/
theorem conv_eq (r : Half) (h : f32Value d = some v) (hv : v ≠ 0) : ∃ num den : ℕ, den ≠ 0 ∧ (num = 0 ↔ r = 0) ∧
    (r.toInt : ℚ) / v = signOf (r.msb != decide (v < 0)) * ((num : ℚ) / den) ∧
    |(r.toInt : ℚ) / v| = (num : ℚ) / den ∧
    conv r d = signedWord (r.msb != decide (v < 0)) (rne32Magnitude num den) := by
  obtain ⟨f, hf, rfl⟩ := exists_finite32 h
  have hmant : f.mant ≠ 0 := fun h0 => hv (by simp [h0])
  have hpos : 0 < (f.mant * 2 ^ f.expo : ℚ) := by positivity
  have hneg : decide (signOf f.neg * (f.mant * 2 ^ f.expo : ℚ) < 0) = f.neg := by
    simp only [signOf_mul_neg_iff f.neg hpos, Bool.decide_eq_true]
  have hquot : (r.toInt : ℚ) / (signOf f.neg * (f.mant * 2 ^ f.expo)) = signOf (r.msb != f.neg) *
      ((r.toInt.natAbs * 2 ^ (-f.expo).toNat : ℕ) / (f.mant * 2 ^ f.expo.toNat : ℕ)) := by
    rw [scaled_div, signOf_bne, toInt_eq_signOf, signOf_div, div_div]
    ring
  rw [hneg]
  refine ⟨r.toInt.natAbs * 2 ^ (-f.expo).toNat, f.mant * 2 ^ f.expo.toNat, by positivity, ?_, hquot, ?_,
    conv_of_finite hf hmant⟩
  · rw [mul_eq_zero, or_iff_left (by positivity), Int.natAbs_eq_zero, ← BitVec.toInt_zero, BitVec.toInt_inj]
    rfl
  · rw [hquot, abs_mul, abs_signOf, one_mul, abs_of_nonneg (by positivity)]

/-- Finite bits with a sign are the binary32 value nearest the fraction with that sign. -/
theorem signedWord_nearest {num den : ℕ} (hden : den ≠ 0) (neg : Bool)
    (h : rne32Magnitude num den < 0x7F800000) {y : ℚ} (hy : IsBinary32 y) :
    let q : ℚ := signOf neg * (num / den)
    let x : ℚ := signOf neg * magnitudeValue (rne32Magnitude num den)
    |q - x| ≤ |q - y| ∧
      (y ≠ x → |q - x| = |q - y| → (signedWord neg (rne32Magnitude num den)).getLsbD 0 = false) := by
  intro q x
  have habs (a b : ℚ) : |a - b| = |signOf neg * a - signOf neg * b| := by
    rw [← mul_sub, abs_mul, abs_signOf, one_mul]
  have hself (a : ℚ) : signOf neg * (signOf neg * a) = a := by rw [← mul_assoc, signOf_mul_self, one_mul]
  have hy' : IsBinary32 (signOf neg * y) := by
    cases neg
    · simpa [signOf] using hy
    · simpa [signOf] using hy.neg
  obtain ⟨hle, heven⟩ := rne32Magnitude_nearest hden h hy'
  rw [habs q x, habs q y, hself, hself]
  exact ⟨hle, fun hne heq => signedWord_last_bit neg (heven (fun hyx => hne (by rw [← hself y, hyx])) heq)⟩

/-- A quotient below the overflow bound converts to the binary32 value nearest it. -/
theorem conv_nearest (h : f32Value d = some v) (hv : v ≠ 0)
    (hlt : |(r.toInt : ℚ) / v| < (2 ^ 24 - 1 / 2) * 2 ^ 104) :
    ∃ x, f32Value (conv r d) = some x ∧ ∀ y, IsBinary32 y →
      |(r.toInt : ℚ) / v - x| ≤ |(r.toInt : ℚ) / v - y| ∧
      (y ≠ x → |(r.toInt : ℚ) / v - x| = |(r.toInt : ℚ) / v - y| → (conv r d).getLsbD 0 = false) := by
  obtain ⟨num, den, hden, _, hq, habs, hconv⟩ := conv_eq r h hv
  rw [habs, ← rne32Magnitude_lt_iff hden] at hlt
  rw [hconv, hq]
  exact ⟨_, f32Value_signedWord _ hlt, fun y hy => signedWord_nearest hden _ hlt hy⟩

theorem signedWord_infinity (neg : Bool) {a : ℚ} (ha : 0 < a) :
    signedWord neg 0x7F800000 = if 0 < signOf neg * a then 0x7F800000 else 0xFF800000 := by
  cases neg
  · rw [if_pos (by simpa [signOf] using ha)]
    decide
  · rw [if_neg (by simpa [signOf] using ha.le)]
    decide

/-- From the overflow bound on a quotient converts to the infinity of its sign. -/
theorem conv_overflow (h : f32Value d = some v) (hv : v ≠ 0)
    (hge : (2 ^ 24 - 1 / 2) * 2 ^ 104 ≤ |(r.toInt : ℚ) / v|) :
    conv r d = if 0 < (r.toInt : ℚ) / v then 0x7F800000 else 0xFF800000 := by
  obtain ⟨num, den, hden, _, hq, habs, hconv⟩ := conv_eq r h hv
  rw [habs] at hge
  have hm : rne32Magnitude num den = 0x7F800000 :=
    le_antisymm (rne32Magnitude_le num den) (not_lt.mp (mt (rne32Magnitude_lt_iff hden).mp (not_lt.mpr hge)))
  rw [hconv, hm, hq]
  exact signedWord_infinity _ (lt_of_lt_of_le (by norm_num) hge)

/-- Zero converts to the zero of the divisor's sign. -/
theorem conv_zero (h : f32Value d = some v) (hv : v ≠ 0) :
    conv 0 d = if 0 < v then 0x00000000 else 0x80000000 := by
  obtain ⟨num, den, _, hnum, _, _, hconv⟩ := conv_eq 0 h hv
  rw [hconv, hnum.mpr rfl, rne32Magnitude_zero]
  rcases hv.lt_or_gt with hneg | hpos
  · rw [if_neg hneg.le.not_gt, decide_eq_true hneg]
    decide
  · rw [if_pos hpos, decide_eq_false hpos.le.not_gt]
    decide

/-! ### The divisors (41_acquisition.md R214) -/

theorem f32Value_divisor_g2 : f32Value 0x43FFC000 = some (1023 / 2) := by
  have h : finite32 0x43FFC000 = some ⟨false, 16760832, -15⟩ := by decide
  rw [f32Value, h]
  norm_num

theorem f32Value_divisor_g4 : f32Value 0x437FC000 = some (1023 / 4) := by
  have h : finite32 0x437FC000 = some ⟨false, 16760832, -16⟩ := by decide
  rw [f32Value, h]
  norm_num

theorem f32Value_divisor_g8 : f32Value 0x42FFC000 = some (1023 / 8) := by
  have h : finite32 0x42FFC000 = some ⟨false, 16760832, -17⟩ := by decide
  rw [f32Value, h]
  norm_num

theorem f32Value_divisor_standard (p : Params) (g : GSel) (res : Bool) (hp : p.convDiv = .standard) :
    f32Value (p.divisor g res) = some (standardDivisor g) := by
  cases g <;> cases res <;> simp only [Params.divisor, hp, ConvDiv.standard]
  case g2.false | g2.true => exact f32Value_divisor_g2
  case g4.false | g4.true => exact f32Value_divisor_g4
  case g8.false | g8.true => exact f32Value_divisor_g8

theorem standardDivisor_pos (g : GSel) : 0 < standardDivisor g := by
  cases g <;> norm_num [standardDivisor, GSel.fullScale]

theorem standardDivisor_bounds (g : GSel) : 1 ≤ standardDivisor g ∧ standardDivisor g ≤ 512 := by
  cases g <;> norm_num [standardDivisor, GSel.fullScale]

theorem abs_toInt_le (r : Half) : |r.toInt| ≤ 2 ^ 15 :=
  abs_le.mpr ⟨BitVec.le_toInt r, BitVec.toInt_lt.le⟩

/-- By a default divisor a quotient is below the overflow bound. -/
theorem abs_standard_quotient_lt (r : Half) (g : GSel) :
    |(r.toInt : ℚ) / standardDivisor g| < (2 ^ 24 - 1 / 2) * 2 ^ 104 := by
  obtain ⟨hone, _⟩ := standardDivisor_bounds g
  rw [abs_div, abs_of_pos (standardDivisor_pos g)]
  calc |(r.toInt : ℚ)| / standardDivisor g ≤ |(r.toInt : ℚ)| := div_le_self (abs_nonneg _) hone
    _ ≤ 2 ^ 15 := by exact_mod_cast abs_toInt_le r
    _ < (2 ^ 24 - 1 / 2) * 2 ^ 104 := by norm_num

/-- By a default divisor, every raw value but 0 converts to its sign and the bits of a normal number. -/
theorem conv_standard (p : Params) (g : GSel) (res : Bool) (hp : p.convDiv = .standard) (hr : r ≠ 0) :
    ∃ m, 2 ^ 23 ≤ m ∧ m < 0x7F800000 ∧ conv r (p.divisor g res) = signedWord r.msb m := by
  obtain ⟨num, den, hden, hnum, _, habs, hconv⟩ :=
    conv_eq r (f32Value_divisor_standard p g res hp) (standardDivisor_pos g).ne'
  have hsign : decide (standardDivisor g < 0) = false := decide_eq_false (standardDivisor_pos g).le.not_gt
  rw [hsign, Bool.bne_false] at hconv
  have hone : (1 : ℚ) ≤ |(r.toInt : ℚ)| := by
    have hne : r.toInt ≠ 0 := fun h0 => hr (BitVec.toInt_inj.mp (h0.trans BitVec.toInt_zero.symm))
    exact_mod_cast Int.one_le_abs hne
  have hnormal : (2 : ℚ) ^ (-126 : ℤ) ≤ num / den := by
    obtain ⟨_, h512⟩ := standardDivisor_bounds g
    rw [← habs, abs_div, abs_of_pos (standardDivisor_pos g)]
    calc (2 : ℚ) ^ (-126 : ℤ) ≤ 1 / 512 := by norm_num
      _ ≤ |(r.toInt : ℚ)| / standardDivisor g := div_le_div₀ (abs_nonneg _) hone (standardDivisor_pos g) h512
  refine ⟨_, le_rne32Magnitude (mt hnum.mp hr) hden hnormal, ?_, hconv⟩
  rw [rne32Magnitude_lt_iff hden, ← habs]
  exact abs_standard_quotient_lt r g

/-! ### The exact conversions (41_acquisition.md R218 (f)) -/

/-- A quotient that is a binary32 value converts to itself. -/
theorem conv_exact (h : f32Value d = some v) (hv : v ≠ 0)
    (hlt : |(r.toInt : ℚ) / v| < (2 ^ 24 - 1 / 2) * 2 ^ 104) (hq : IsBinary32 ((r.toInt : ℚ) / v)) :
    f32Value (conv r d) = some ((r.toInt : ℚ) / v) := by
  obtain ⟨x, hx, hnear⟩ := conv_nearest h hv hlt
  obtain ⟨hle, _⟩ := hnear _ hq
  rw [sub_self, abs_zero, abs_nonpos_iff, sub_eq_zero] at hle
  rw [hx, hle]

/-- A quotient by 1023/FS is a binary32 value only when 1023 divides the raw value, because 1023 is odd. -/
theorem isBinary32_standard_quotient_iff (r : Half) (g : GSel) :
    IsBinary32 ((r.toInt : ℚ) / standardDivisor g) ↔ (1023 : ℤ) ∣ r.toInt := by
  constructor
  · rintro ⟨n, e, _, he, hy⟩
    obtain ⟨a, rfl⟩ : ∃ a : ℕ, e = a - 149 := ⟨(e + 149).toNat, by omega⟩
    have hint : r.toInt * (g.fullScale * 2 ^ 149) = 1023 * (n * 2 ^ a) := by
      rw [standardDivisor, div_div_eq_mul_div, div_eq_iff (by norm_num), zpow_sub₀ two_ne_zero, zpow_natCast] at hy
      have hq : (r.toInt : ℚ) * (g.fullScale * 2 ^ 149) = 1023 * (n * 2 ^ a) := by
        rw [← mul_assoc, hy]
        norm_num
        ring
      exact_mod_cast hq
    have hcop : IsCoprime (1023 : ℤ) (g.fullScale * 2 ^ 149) := by
      rw [Int.isCoprime_iff_gcd_eq_one]
      cases g <;> decide
    exact hcop.dvd_of_dvd_mul_right (Dvd.intro _ hint.symm)
  · rintro ⟨c, hc⟩
    have hr := abs_le.mp (abs_toInt_le r)
    refine ⟨c * g.fullScale, 0, ?_, by norm_num, ?_⟩
    · rw [abs_lt]
      cases g <;> simp only [GSel.fullScale] <;> omega
    · rw [standardDivisor, hc]
      push_cast
      field_simp

end

/-! ### The obligations -/

/-- Settles O38: the pinned divisor and the default ones by their fields, the others by their pair. -/
theorem divisorValues : Obligations.DivisorValues := by
  refine ⟨fun p => f32Value_divisor_g2, ?_, f32Value_divisor_standard⟩
  rintro p g2Low g4Low g4High g8Low g8High hp
  simp only [Params.divisor, hp, and_self]

/-- Settles O39: the five conversions, evaluated. -/
theorem pinnedConversionExamples : Obligations.PinnedConversionExamples := by
  intro p
  rw [Params.divisor]
  decide

/-- Settles O40: the nearest value, the overflow and the zero are the three cases of the rounded magnitude. -/
theorem conversionRoundsToNearest : Obligations.ConversionRoundsToNearest := by
  intro r d v h hv
  refine ⟨fun hlt => ?_, conv_overflow h hv, ?_⟩
  · obtain ⟨x, hx, hnear⟩ := conv_nearest h hv hlt
    exact ⟨x, hx, fun w y hy => hnear y (isBinary32_of_f32Value hy)⟩
  · rintro rfl
    exact conv_zero h hv

/-- Settles O41: the magnitude of a quotient by 1023/FS lies between 2^-126 and the overflow bound. -/
theorem conversionIsNormalOrZero : Obligations.ConversionIsNormalOrZero := by
  intro p g res r hp
  constructor
  · rintro rfl
    exact (conv_zero (f32Value_divisor_standard p g res hp) (standardDivisor_pos g).ne').trans
      (if_pos (standardDivisor_pos g))
  · intro hr
    obtain ⟨m, hge, hlt, hconv⟩ := conv_standard p g res hp hr
    intro w
    rw [show w = _ from hconv, signedWord_sign, signedWord_exponent _ (by omega)]
    exact ⟨rfl, by omega, by omega⟩

/-- Settles O42: a negated raw value has the same magnitude, and with it the same bits below the sign. -/
theorem conversionIsOdd : Obligations.ConversionIsOdd := by
  intro r d v h hv hr hmin
  obtain ⟨f, hf, rfl⟩ := exists_finite32 h
  have hmant : f.mant ≠ 0 := fun h0 => hv (by simp [h0])
  have hmsb : (-r).msb = !r.msb := by
    rw [BitVec.msb_neg, bne_iff_ne.mpr (show r ≠ 0#16 from hr), bne_iff_ne.mpr (show r ≠ BitVec.intMin 16 from hmin),
      Bool.and_self, Bool.true_xor]
  rw [conv_of_finite hf hmant, conv_of_finite hf hmant, BitVec.toInt_neg_of_ne_intMin hmin, Int.natAbs_neg, hmsb,
    Bool.not_bne, signedWord_not]

/-- Settles O43: the conversion is a binary32 value, so it is exact only where the quotient is one, and there it is. -/
theorem conversionExactPoints : Obligations.ConversionExactPoints := by
  intro p g res r hp
  rw [← isBinary32_standard_quotient_iff r g]
  exact ⟨isBinary32_of_f32Value,
    conv_exact (f32Value_divisor_standard p g res hp) (standardDivisor_pos g).ne' (abs_standard_quotient_lt r g)⟩

end Sys2Proof.Machine
end
